-- ==== Sys2Proof/Word.lean ====
section
/-! DEFINITION. The two word types of the facekid CORE (spec/00_scope.md R7): all values are unsigned, and arithmetic on
them wraps. -/

namespace Sys2Proof

/-- R7: a byte, an unsigned integer 0..255. -/
abbrev Byte := BitVec 8

/-- R7: a word, an unsigned integer 0..2^32-1; `a +32 b` is `a + b` here, which wraps modulo 2^32. -/
abbrev Word := BitVec 32

end Sys2Proof
end

