-- ==== Sys2Proof/Config.lean ====
section
/-! DEFINITION. What an implementation of the CORE fixes (the parameters of spec/00_scope.md R6) and the free values: the
values the spec says are drawn or unspecified. A free value is an opaque constant, of which nothing can be proved. -/

namespace Sys2Proof

/-- R6, D11: the capacity PAD_CAP of the padded-message buffer, either unbounded or a multiple of 64 that is at least 64.
The constraint is built into the type: `blocks n` holds `64 * (n + 1)` bytes. -/
inductive PadCap where
  | unbounded
  | blocks (extra : Nat)
  deriving DecidableEq, Repr, Inhabited

/-- R6, R29, R184: how the 160 tail bytes of the round-key material come about. Either they are drawn afresh by each
command, or the configuration fixes them (RK_TAIL_ZERO fixes them all to 0x00). -/
inductive TailMode where
  | drawn
  | fixed (tail : Vector Byte 160)
  deriving DecidableEq, Repr, Inhabited

/-- The open parameters of the block that a command reads (R6; spec/92_eei_decisions.md, "What a model must take from this
file", point 1). No step writes the tables (R12, R156), and none writes the mode of the tail or
PAD_CAP (DESIGN CHOICE, log 4). The tables K, S and IV are fixed by the spec (D7, R155). -/
structure Params where
  sbox    : Vector Byte 256
  invSbox : Vector Byte 256
  tail    : TailMode
  padCap  : PadCap
  deriving DecidableEq, Repr

/-- What a draw is for. Every use has a name of its own, so that no two uses share a value. -/
inductive DrawOf where
  | rkTail | blockRead | hexRead | agent | padByte
  | cSt | cRk | cBlk | cKey | cDir | cOut | cRound
  | dMsg | dLen | dBitlen | dPlen | dPadbuf
  | dA | dB | dC | dD | dWa | dWb | dWc | dWd | dX | dHex | dBlk | dI
  deriving DecidableEq, Repr

namespace Config

/-- R7 `draw(T)` for n bytes: free value number `k` of the instance `inst` for the use `d`. -/
opaque drawBytes (d : DrawOf) (n inst k : Nat) : Vector Byte n

/-- R7 `draw(T)` for n words of 32 bits. -/
opaque drawWords (d : DrawOf) (n inst k : Nat) : Vector Word n

/-- R7 `draw(T)` for a value of `w` bits. -/
opaque drawBits (d : DrawOf) (w inst k : Nat) : BitVec w

/-- R7 `draw(T)` for a natural number. -/
opaque drawNat (d : DrawOf) (inst k : Nat) : Nat

/-- R7 `draw(T)` for a byte sequence of any length. -/
opaque drawList (d : DrawOf) (inst k : Nat) : List Byte

/-- R6: the implementation's PAD_CAP, which the spec leaves OPEN. -/
opaque padCap : PadCap

end Config

end Sys2Proof
end

