-- ==== Sys2Proof/Syntax.lean ====
section
/-! DEFINITION. The operations of the CORE: one constructor for each of the 17 rows of spec/opcode_table.json. No operation
carries an operand (spec/30_encoding.md R62, R63): a command's operands stand on the input ports, a micro-operation's in
the sequencer's counters. -/

namespace Sys2Proof

/-- The three commands (R60, R62) and the fourteen micro-operations (R63). -/
inductive Instr where
  | enc | dec | hash
  | cLoadst | cKeyload | cArk | cSub | cShift | cIsub | cIshift | cOut
  | dPadgen | dInit | dLoadx | dStep | dAddback | dRender
  deriving DecidableEq, Repr

/-- The two command ports C_CMD and D_CMD (R34, R61). -/
inductive CmdPort where
  | cCmd | dCmd
  deriving DecidableEq, Repr

/-- Why a byte stands for no operation. -/
inductive DecodeError where
  /-- R64: a value of the CMD8 format that is no command. -/
  | reservedCommand
  /-- R64: a well-formed command sent to the other unit's port. -/
  | wrongUnit
  /-- R63: an unused value of the UOP8 format. -/
  | unusedIdentifier
  deriving DecidableEq, Repr

end Sys2Proof
end

