-- ==== Sys2Proof/WellFormed.lean ====
section
/-! DEFINITION. The checks on terms. An `Instr` has no field, so an operation alone is always well formed; what can be ill
formed is an operation on a port that does not take it, a message presented with another length, and a parameter set whose
tables are not inverse to each other. -/

namespace Sys2Proof

/-- R60, R64: ENC and DEC are accepted on C_CMD only, HASH on D_CMD only, a micro-operation on neither. -/
def Instr.wfOn : CmdPort → Instr → Bool
  | .cCmd, .enc => true
  | .cCmd, .dec => true
  | .dCmd, .hash => true
  | _, _ => false

/-- R163 (c), R17: the number on D_LEN_IN is the number of bytes presented. -/
def messageWf (msg : List Byte) (len : BitVec 64) : Bool :=
  msg.length == len.toNat

/-- R6, R152: the substitution tables are inverse to each other, in both directions. -/
def Params.wf (p : Params) : Bool :=
  (List.finRange 256).all fun x =>
    p.invSbox[(p.sbox[x]).toNat] == BitVec.ofNat 8 x.val && p.sbox[(p.invSbox[x]).toNat] == BitVec.ofNat 8 x.val

end Sys2Proof
end

