-- ==== Sys2Proof/Decode.lean ====
section
/-! DEFINITION. The decoder of spec/30_encoding.md, total on all bytes, and after it the encoder. Format CMD8 (R61): bits
[7:4] unit, bits [3:0] operation. Format UOP8 (R63): bit 7 is 1, bits [6:4] unit, bits [3:0] micro-operation. -/

namespace Sys2Proof

/-- R61: bits [7:4] of a CMD8 byte. -/
def cmdUnit (b : Byte) : BitVec 4 := b.extractLsb' 4 4

/-- R61, R63: bits [3:0] of a byte of either format. -/
def opField (b : Byte) : BitVec 4 := b.extractLsb' 0 4

/-- R63: bits [6:4] of a UOP8 byte. -/
def uopUnit (b : Byte) : BitVec 3 := b.extractLsb' 4 3

/-- R63, R69: bit 7 tells the micro-operation identifiers from the commands. -/
def isUopByte (b : Byte) : Bool := b.getLsbD 7

/-- R62, R64: a CMD8 byte; every value but 0x00, 0x01 and 0x10 is reserved. -/
def decodeCommand (b : Byte) : Except DecodeError Instr :=
  match (cmdUnit b).toNat, (opField b).toNat with
  | 0, 0 => .ok .enc
  | 0, 1 => .ok .dec
  | 1, 0 => .ok .hash
  | _, _ => .error .reservedCommand

/-- R63: a UOP8 byte (bit 7 is taken to be 1); 0x88..0x8F, 0x96..0x9F and 0xA0..0xFF are unused. -/
def decodeUop (b : Byte) : Except DecodeError Instr :=
  match (uopUnit b).toNat, (opField b).toNat with
  | 0, 0 => .ok .cLoadst
  | 0, 1 => .ok .cKeyload
  | 0, 2 => .ok .cArk
  | 0, 3 => .ok .cSub
  | 0, 4 => .ok .cShift
  | 0, 5 => .ok .cIsub
  | 0, 6 => .ok .cIshift
  | 0, 7 => .ok .cOut
  | 1, 0 => .ok .dPadgen
  | 1, 1 => .ok .dInit
  | 1, 2 => .ok .dLoadx
  | 1, 3 => .ok .dStep
  | 1, 4 => .ok .dAddback
  | 1, 5 => .ok .dRender
  | _, _ => .error .unusedIdentifier

/-- R69: a byte of either format, told apart by bit 7. -/
def decode (b : Byte) : Except DecodeError Instr :=
  if isUopByte b then decodeUop b else decodeCommand b

/-- R64, R69: a byte written to a command port. The port says that the format is CMD8, so a byte with bit 7 set is a
reserved command there, and a command of the other unit is refused too. -/
def decodeOn (p : CmdPort) (b : Byte) : Except DecodeError Instr :=
  match decodeCommand b with
  | .ok i => if i.wfOn p then .ok i else .error .wrongUnit
  | .error e => .error e

/-- R61: a CMD8 byte from its fields. -/
def cmd8 (unit op : BitVec 4) : Byte := unit ++ op

/-- R63: a UOP8 byte from its fields. -/
def uop8 (unit : BitVec 3) (op : BitVec 4) : Byte := (1#1 ++ unit) ++ op

/-- R62, R63: the byte of each operation. -/
def encode : Instr → Byte
  | .enc => cmd8 0 0
  | .dec => cmd8 0 1
  | .hash => cmd8 1 0
  | .cLoadst => uop8 0 0
  | .cKeyload => uop8 0 1
  | .cArk => uop8 0 2
  | .cSub => uop8 0 3
  | .cShift => uop8 0 4
  | .cIsub => uop8 0 5
  | .cIshift => uop8 0 6
  | .cOut => uop8 0 7
  | .dPadgen => uop8 1 0
  | .dInit => uop8 1 1
  | .dLoadx => uop8 1 2
  | .dStep => uop8 1 3
  | .dAddback => uop8 1 4
  | .dRender => uop8 1 5

/-- The one byte of a row of spec/opcode_table.json whose `nbits` bits are `w` (R69: every operation is one byte). -/
def tableByte (nbits w : Nat) : Byte := BitVec.ofNat 8 (w % 2 ^ nbits)

/-- The operation the decoder reads from a row of spec/opcode_table.json. -/
def decodeTableWord (nbits w : Nat) : Option Instr :=
  match decode (tableByte nbits w) with
  | .ok i => some i
  | .error _ => none

end Sys2Proof
end

