-- ==== Sys2Proof/Machine/Tables.lean ====
section
/-! DEFINITION. The constant tables (spec/42_tables.md R150 to R156). SBOX and INV_SBOX are parameters of the block with
these contents as the spec's default; K, S and IV are fixed. The spec supplies all but IV from general knowledge (PRESUMED, unsafe, log 11).
No step writes any of them. -/

namespace Sys2Proof.Machine

/-- R150: the default contents of SBOX, row by row of the spec's table. -/
def sboxBytes : List Byte :=
   [0x63, 0x7c, 0x77, 0x7b, 0xf2, 0x6b, 0x6f, 0xc5, 0x30, 0x01, 0x67, 0x2b, 0xfe, 0xd7, 0xab, 0x76] ++
   [0xca, 0x82, 0xc9, 0x7d, 0xfa, 0x59, 0x47, 0xf0, 0xad, 0xd4, 0xa2, 0xaf, 0x9c, 0xa4, 0x72, 0xc0] ++
   [0xb7, 0xfd, 0x93, 0x26, 0x36, 0x3f, 0xf7, 0xcc, 0x34, 0xa5, 0xe5, 0xf1, 0x71, 0xd8, 0x31, 0x15] ++
   [0x04, 0xc7, 0x23, 0xc3, 0x18, 0x96, 0x05, 0x9a, 0x07, 0x12, 0x80, 0xe2, 0xeb, 0x27, 0xb2, 0x75] ++
   [0x09, 0x83, 0x2c, 0x1a, 0x1b, 0x6e, 0x5a, 0xa0, 0x52, 0x3b, 0xd6, 0xb3, 0x29, 0xe3, 0x2f, 0x84] ++
   [0x53, 0xd1, 0x00, 0xed, 0x20, 0xfc, 0xb1, 0x5b, 0x6a, 0xcb, 0xbe, 0x39, 0x4a, 0x4c, 0x58, 0xcf] ++
   [0xd0, 0xef, 0xaa, 0xfb, 0x43, 0x4d, 0x33, 0x85, 0x45, 0xf9, 0x02, 0x7f, 0x50, 0x3c, 0x9f, 0xa8] ++
   [0x51, 0xa3, 0x40, 0x8f, 0x92, 0x9d, 0x38, 0xf5, 0xbc, 0xb6, 0xda, 0x21, 0x10, 0xff, 0xf3, 0xd2] ++
   [0xcd, 0x0c, 0x13, 0xec, 0x5f, 0x97, 0x44, 0x17, 0xc4, 0xa7, 0x7e, 0x3d, 0x64, 0x5d, 0x19, 0x73] ++
   [0x60, 0x81, 0x4f, 0xdc, 0x22, 0x2a, 0x90, 0x88, 0x46, 0xee, 0xb8, 0x14, 0xde, 0x5e, 0x0b, 0xdb] ++
   [0xe0, 0x32, 0x3a, 0x0a, 0x49, 0x06, 0x24, 0x5c, 0xc2, 0xd3, 0xac, 0x62, 0x91, 0x95, 0xe4, 0x79] ++
   [0xe7, 0xc8, 0x37, 0x6d, 0x8d, 0xd5, 0x4e, 0xa9, 0x6c, 0x56, 0xf4, 0xea, 0x65, 0x7a, 0xae, 0x08] ++
   [0xba, 0x78, 0x25, 0x2e, 0x1c, 0xa6, 0xb4, 0xc6, 0xe8, 0xdd, 0x74, 0x1f, 0x4b, 0xbd, 0x8b, 0x8a] ++
   [0x70, 0x3e, 0xb5, 0x66, 0x48, 0x03, 0xf6, 0x0e, 0x61, 0x35, 0x57, 0xb9, 0x86, 0xc1, 0x1d, 0x9e] ++
   [0xe1, 0xf8, 0x98, 0x11, 0x69, 0xd9, 0x8e, 0x94, 0x9b, 0x1e, 0x87, 0xe9, 0xce, 0x55, 0x28, 0xdf] ++
   [0x8c, 0xa1, 0x89, 0x0d, 0xbf, 0xe6, 0x42, 0x68, 0x41, 0x99, 0x2d, 0x0f, 0xb0, 0x54, 0xbb, 0x16]

/-- R151: the default contents of INV_SBOX, row by row of the spec's table. -/
def invSboxBytes : List Byte :=
   [0x52, 0x09, 0x6a, 0xd5, 0x30, 0x36, 0xa5, 0x38, 0xbf, 0x40, 0xa3, 0x9e, 0x81, 0xf3, 0xd7, 0xfb] ++
   [0x7c, 0xe3, 0x39, 0x82, 0x9b, 0x2f, 0xff, 0x87, 0x34, 0x8e, 0x43, 0x44, 0xc4, 0xde, 0xe9, 0xcb] ++
   [0x54, 0x7b, 0x94, 0x32, 0xa6, 0xc2, 0x23, 0x3d, 0xee, 0x4c, 0x95, 0x0b, 0x42, 0xfa, 0xc3, 0x4e] ++
   [0x08, 0x2e, 0xa1, 0x66, 0x28, 0xd9, 0x24, 0xb2, 0x76, 0x5b, 0xa2, 0x49, 0x6d, 0x8b, 0xd1, 0x25] ++
   [0x72, 0xf8, 0xf6, 0x64, 0x86, 0x68, 0x98, 0x16, 0xd4, 0xa4, 0x5c, 0xcc, 0x5d, 0x65, 0xb6, 0x92] ++
   [0x6c, 0x70, 0x48, 0x50, 0xfd, 0xed, 0xb9, 0xda, 0x5e, 0x15, 0x46, 0x57, 0xa7, 0x8d, 0x9d, 0x84] ++
   [0x90, 0xd8, 0xab, 0x00, 0x8c, 0xbc, 0xd3, 0x0a, 0xf7, 0xe4, 0x58, 0x05, 0xb8, 0xb3, 0x45, 0x06] ++
   [0xd0, 0x2c, 0x1e, 0x8f, 0xca, 0x3f, 0x0f, 0x02, 0xc1, 0xaf, 0xbd, 0x03, 0x01, 0x13, 0x8a, 0x6b] ++
   [0x3a, 0x91, 0x11, 0x41, 0x4f, 0x67, 0xdc, 0xea, 0x97, 0xf2, 0xcf, 0xce, 0xf0, 0xb4, 0xe6, 0x73] ++
   [0x96, 0xac, 0x74, 0x22, 0xe7, 0xad, 0x35, 0x85, 0xe2, 0xf9, 0x37, 0xe8, 0x1c, 0x75, 0xdf, 0x6e] ++
   [0x47, 0xf1, 0x1a, 0x71, 0x1d, 0x29, 0xc5, 0x89, 0x6f, 0xb7, 0x62, 0x0e, 0xaa, 0x18, 0xbe, 0x1b] ++
   [0xfc, 0x56, 0x3e, 0x4b, 0xc6, 0xd2, 0x79, 0x20, 0x9a, 0xdb, 0xc0, 0xfe, 0x78, 0xcd, 0x5a, 0xf4] ++
   [0x1f, 0xdd, 0xa8, 0x33, 0x88, 0x07, 0xc7, 0x31, 0xb1, 0x12, 0x10, 0x59, 0x27, 0x80, 0xec, 0x5f] ++
   [0x60, 0x51, 0x7f, 0xa9, 0x19, 0xb5, 0x4a, 0x0d, 0x2d, 0xe5, 0x7a, 0x9f, 0x93, 0xc9, 0x9c, 0xef] ++
   [0xa0, 0xe0, 0x3b, 0x4d, 0xae, 0x2a, 0xf5, 0xb0, 0xc8, 0xeb, 0xbb, 0x3c, 0x83, 0x53, 0x99, 0x61] ++
   [0x17, 0x2b, 0x04, 0x7e, 0xba, 0x77, 0xd6, 0x26, 0xe1, 0x69, 0x14, 0x63, 0x55, 0x21, 0x0c, 0x7d]

/-- R150: SBOX as a table of 256 bytes. -/
def defaultSbox : Vector Byte 256 := ⟨sboxBytes.toArray, by decide +kernel⟩

/-- R151: INV_SBOX as a table of 256 bytes. -/
def defaultInvSbox : Vector Byte 256 := ⟨invSboxBytes.toArray, by decide +kernel⟩

/-- R153: the 64 additive constants, four a row as the spec prints them. -/
def kWords : List Word :=
   [0xd76aa478, 0xe8c7b756, 0x242070db, 0xc1bdceee] ++
   [0xf57c0faf, 0x4787c62a, 0xa8304613, 0xfd469501] ++
   [0x698098d8, 0x8b44f7af, 0xffff5bb1, 0x895cd7be] ++
   [0x6b901122, 0xfd987193, 0xa679438e, 0x49b40821] ++
   [0xf61e2562, 0xc040b340, 0x265e5a51, 0xe9b6c7aa] ++
   [0xd62f105d, 0x02441453, 0xd8a1e681, 0xe7d3fbc8] ++
   [0x21e1cde6, 0xc33707d6, 0xf4d50d87, 0x455a14ed] ++
   [0xa9e3e905, 0xfcefa3f8, 0x676f02d9, 0x8d2a4c8a] ++
   [0xfffa3942, 0x8771f681, 0x6d9d6122, 0xfde5380c] ++
   [0xa4beea44, 0x4bdecfa9, 0xf6bb4b60, 0xbebfbc70] ++
   [0x289b7ec6, 0xeaa127fa, 0xd4ef3085, 0x04881d05] ++
   [0xd9d4d039, 0xe6db99e5, 0x1fa27cf8, 0xc4ac5665] ++
   [0xf4292244, 0x432aff97, 0xab9423a7, 0xfc93a039] ++
   [0x655b59c3, 0x8f0ccc92, 0xffeff47d, 0x85845dd1] ++
   [0x6fa87e4f, 0xfe2ce6e0, 0xa3014314, 0x4e0811a1] ++
   [0xf7537e82, 0xbd3af235, 0x2ad7d2bb, 0xeb86d391]

/-- R153: K as a table of 64 words. -/
def tableK : Vector Word 64 := ⟨kWords.toArray, by decide +kernel⟩

/-- R154: the 4 x 4 generator SROW of the rotation amounts, one row a stage. -/
def tableSrow : Vector (Vector Nat 4) 4 :=
  #v[#v[7, 12, 17, 22], #v[5, 9, 14, 20], #v[4, 11, 16, 23], #v[6, 10, 15, 21]]

/-- R154: the rotation amount `S[i] = SROW[i div 16][i mod 4]`. -/
def rotAmount (i : Fin 64) : Nat :=
  (tableSrow[i.val / 16]'(by omega))[i.val % 4]'(by omega)

/-- R155: the four words of IV. -/
def tableIv : Vector Word 4 := #v[0x67452301, 0xefcdab89, 0x98badcfe, 0x10325476]

/-- R6: the parameters of a block as built: the default tables, a tail drawn by each command, and the PAD_CAP of the
implementation, which is left open. -/
def defaultParams : Params :=
  { sbox := defaultSbox, invSbox := defaultInvSbox, tail := .drawn, padCap := Config.padCap }

end Sys2Proof.Machine
end

