-- ==== Sys2Proof/Machine/State.lean ====
section
/-! DEFINITION. The state of one CORE: the CIPH unit and the DIG unit (spec/10_state.md R13 to R33), the host's side of the
interface (spec/60_exceptions.md R177), the read-only parameters and tables (R6, R12), and the model's own bookkeeping of
who moves next and which draws have been made. -/

namespace Sys2Proof.Machine

/-- R24: the phases of the CIPH sequencer. -/
inductive CPhase where
  | idle | loadst | keyload | whiten | sub | shift | ishift | isub | ark | out
  deriving DecidableEq, Repr

/-- R31: the phases of the DIG sequencer. -/
inductive DPhase where
  | idle | padgen | init | loadx | step | addback | render
  deriving DecidableEq, Repr

/-- Four words in state order A, B, C, D: the form of the accumulators (R20) and of the working registers (R21). -/
structure Quad where
  a : Word
  b : Word
  c : Word
  d : Word
  deriving DecidableEq, Repr

/-- The CIPH unit (R13 to R16, R24, R26). -/
structure Ciph where
  /-- C_PHASE -/
  phase : CPhase
  /-- C_ROUND, 0..10 -/
  round : Fin 11
  /-- C_DIR: false is 0 (ENC), true is 1 (DEC) -/
  dir   : Bool
  /-- C_BUSY -/
  busy  : Bool
  /-- C_DONE -/
  done  : Bool
  /-- C_BLK -/
  blk   : Vector Byte 16
  /-- C_KEY -/
  key   : Vector Byte 16
  /-- ST -/
  st    : Vector Byte 16
  /-- RK, slice r at 16r .. 16r+15 -/
  rk    : Vector Byte 176
  /-- C_OUT -/
  out   : Vector Byte 16
  deriving DecidableEq, Repr

/-- The DIG unit (R17 to R23, R31, R33). -/
structure Dig where
  /-- D_PHASE -/
  phase  : DPhase
  /-- D_BLK -/
  blk    : Nat
  /-- D_I, 0..63 -/
  i      : Fin 64
  /-- D_BUSY -/
  busy   : Bool
  /-- D_DONE -/
  done   : Bool
  /-- D_ERR -/
  err    : Bool
  /-- D_CAUSE -/
  cause  : BitVec 2
  /-- MSG -/
  msg    : List Byte
  /-- LEN -/
  len    : BitVec 64
  /-- BITLEN -/
  bitlen : BitVec 64
  /-- PLEN, a natural number that does not wrap (D24) -/
  plen   : Nat
  /-- PADBUF -/
  padbuf : List Byte
  /-- A, B, C, D -/
  acc    : Quad
  /-- wa, wb, wc, wd -/
  work   : Quad
  /-- X -/
  x      : Vector Word 16
  /-- HEX -/
  hex    : Vector Byte 32
  deriving DecidableEq, Repr

/-- The values the host presents on the input ports (R34). They are not storage elements of the block: the issue step
samples them. -/
structure Ports where
  cBlockIn : BitVec 128
  cKeyIn   : BitVec 128
  dMsgIn   : List Byte
  dLenIn   : BitVec 64
  deriving DecidableEq, Repr

/-- A move of the host (R66, R67, R169, R177) or the reset event (R180). The spec names no agent that brings RESET about; that
it is an item of the host's queue, taken in the host's turn, is DESIGN CHOICE (safe, log 17). -/
inductive HostAction where
  /-- present values on C_BLOCK_IN and C_KEY_IN -/
  | driveCiph (block key : BitVec 128)
  /-- present a message on D_MSG_IN and a length on D_LEN_IN -/
  | driveDig (msg : List Byte) (len : BitVec 64)
  /-- write a command byte to C_CMD or D_CMD: the issue step -/
  | writeCmd (port : CmdPort) (cmd : Byte)
  | readCStatus
  | readDStatus
  | readCBlockOut
  | readDHexOut
  /-- the RESET event, which stands for the platform and not for an abort by the host (R177; log 17) -/
  | reset
  deriving DecidableEq, Repr

/-- What a read gives back to the host (R34). -/
inductive HostRead where
  | cStatus (v : BitVec 2)
  | dStatus (v : BitVec 5)
  | cBlockOut (v : BitVec 128)
  | dHexOut (v : BitVec 256)
  deriving DecidableEq, Repr

/-- The host (R10 (c)): the moves it has yet to make, first one first, and what its reads have returned, last one first. -/
structure HostSide where
  queue    : List HostAction
  received : List HostRead
  deriving DecidableEq, Repr

/-- R10: the three kinds of agent. -/
inductive Agent where
  | host | ciph | dig
  deriving DecidableEq, Repr, Inhabited

/-- The model's own counters of draws: `inst` names the instance (R176), and each other field counts the draws of one kind
made so far, so that each draw is a fresh value (DESIGN CHOICE, safe, log 10). -/
structure Draws where
  inst   : Nat
  turns  : Nat
  tails  : Nat
  reads  : Nat
  resets : Nat
  deriving DecidableEq, Repr

/-- One CORE and its host. -/
structure State where
  /-- the CIPH unit -/
  ciph     : Ciph
  /-- the DIG unit -/
  dig      : Dig
  /-- the input ports -/
  ports    : Ports
  /-- the host -/
  host     : HostSide
  /-- who moves next, first one first; when it is empty the mover is drawn (R10, R52: any interleaving; log 5) -/
  schedule : List Agent
  /-- the parameters and the substitution tables, which no step writes -/
  params   : Params
  /-- the model's draw counters -/
  draws    : Draws
  deriving DecidableEq, Repr

/-- The block has no condition that stops the machine: its one error, AllocationFailure, is a next state with D_ERR set
(R160, R162), and no access can be out of range (R41). So there is no fault. -/
inductive Fault where
  deriving DecidableEq, Repr

/-- Why a step has no meaning. -/
inductive Refusal where
  /-- Raised by `exec` for an operation without a meaning. Safe. No arm raises it in this model. -/
  | notModelled (mnemonic : String)
  /-- R64, R163 (b): the host wrote a byte to a command port that is no command of that port. Raised by the host's issue
  step. Safe: the spec says the model refuses it. -/
  | reservedCommand (port : CmdPort) (cmd : Byte)
  /-- R66, R67, R163 (a): an issue step to a unit whose BUSY flag is 1. Raised by ENC, DEC and HASH. Safe: the spec says the
  model refuses it. -/
  | issueWhileBusy (port : CmdPort)
  /-- R163 (c): D_LEN_IN differs from the number of bytes presented. Raised by HASH. Safe: the spec says the model refuses
  it. -/
  | lengthMismatch
  deriving DecidableEq, Repr

/-- The outcome of a step. -/
abbrev Result := Host.Outcome State Fault Refusal

/-- R36, R181: the CIPH unit after reset. C_PHASE, C_BUSY and C_DONE are the spec's; every other register is unspecified
there, and the zero it holds here is DESIGN CHOICE (unsafe, log 1). -/
def resetCiph : Ciph :=
  { phase := .idle, round := 0, dir := false, busy := false, done := false,
    blk := .replicate 16 0, key := .replicate 16 0, st := .replicate 16 0, rk := .replicate 176 0, out := .replicate 16 0 }

/-- Four zero words. -/
def zeroQuad : Quad := { a := 0, b := 0, c := 0, d := 0 }

/-- R36, R181: the DIG unit after reset. D_PHASE, D_BUSY, D_DONE, D_ERR and D_CAUSE are the spec's; every other register is
unspecified there, and the zero or empty value it holds here is DESIGN CHOICE (unsafe, log 1). -/
def resetDig : Dig :=
  { phase := .idle, blk := 0, i := 0, busy := false, done := false, err := false, cause := 0,
    msg := [], len := 0, bitlen := 0, plen := 0, padbuf := [],
    acc := zeroQuad, work := zeroQuad, x := .replicate 16 0, hex := .replicate 32 0 }

/-- The machine right after reset: both units idle with their flags clear (R36), the tables at their constant contents
(R12, R156), no host move pending and nothing scheduled. The values on the input ports are DESIGN CHOICE (log 2): the host
drives them before it issues. -/
def State.reset : State :=
  { ciph := resetCiph, dig := resetDig,
    ports := { cBlockIn := 0, cKeyIn := 0, dMsgIn := [], dLenIn := 0 },
    host := { queue := [], received := [] }, schedule := [], params := defaultParams,
    draws := { inst := 0, turns := 0, tails := 0, reads := 0, resets := 0 } }

end Sys2Proof.Machine
end

