-- ==== Sys2Proof/Machine/Operands.lean ====
section
/-! DEFINITION. The operand forms: port lanes, table lookups, the row shift's index map, round-key slices, message words,
lengths and digits (spec/30_encoding.md R65, spec/20_memory.md R42 to R47, spec/40_cipher.md, spec/41_digest.md). -/

namespace Sys2Proof.Machine

/-! ### Byte lanes and byte order -/

/-- R65: byte i of a 128-bit port value is its bits [8i+7:8i]. -/
def portLanes (v : BitVec 128) : Vector Byte 16 :=
  .ofFn fun i => v.extractLsb' (8 * i.val) 8

/-- R34, R45: the number whose bits [8i+7:8i] are byte i of a list. -/
def lanesToNat (bs : List Byte) : Nat :=
  bs.foldr (fun b acc => b.toNat + 256 * acc) 0

/-- R34: the port value of n bytes, byte i in lane i. -/
def packLanes {n : Nat} (v : Vector Byte n) : BitVec (8 * n) :=
  BitVec.ofNat (8 * n) (lanesToNat v.toList)

/-- R7 `byte_k(w)`: byte k of a value, k = 0 the least significant. -/
def byteOf {w : Nat} (v : BitVec w) (k : Nat) : Byte :=
  v.extractLsb' (8 * k) 8

/-- R7, R43 `le32`: the word whose byte k is `b k`. -/
def le32 (b0 b1 b2 b3 : Byte) : Word :=
  b3 ++ b2 ++ b1 ++ b0

/-! ### Cipher operands -/

/-- R81, R82: the entry of a 256-entry table that a byte indexes (R41: every byte is a valid index). -/
def lookup (t : Vector Byte 256) (b : Byte) : Byte :=
  t[b.toNat]

/-- R83: the source index of the left row shift. Index i = r + 4c takes the entry at row r, column (c + r) mod 4. -/
def shiftIndex (i : Fin 16) : Fin 16 :=
  ⟨i.val % 4 + 4 * ((i.val / 4 + i.val % 4) % 4), by omega⟩

/-- R84: the source index of the right row shift, column (c - r) mod 4. -/
def ishiftIndex (i : Fin 16) : Fin 16 :=
  ⟨i.val % 4 + 4 * ((i.val / 4 + 4 - i.val % 4) % 4), by omega⟩

/-- R85: byte i of round-key slice r is `RK[16r + i]`. -/
def sliceByte (rk : Vector Byte 176) (r : Fin 11) (i : Fin 16) : Byte :=
  rk[16 * r.val + i.val]

/-- R86: the round-key material, the key in slice 0 and the tail in slices 1 to 10. -/
def roundKeys (key : Vector Byte 16) (tail : Vector Byte 160) : Vector Byte 176 :=
  .ofFn fun j => if h : j.val < 16 then key[j.val] else tail[j.val - 16]

/-! ### Digest operands -/

/-- R112: the padded length of a message of `len` bytes, on natural numbers without wrap. -/
def paddedLength (len : Nat) : Nat :=
  64 * ((len + 8) / 64 + 1)

/-- R18: the number of compression blocks. -/
def blockCount (plen : Nat) : Nat :=
  plen / 64

/-- R111: the length in bits, modulo 2^64. -/
def bitLength (len : BitVec 64) : BitVec 64 :=
  len * 8

/-- R6, R160: whether a padded message of `plen` bytes fits the buffer. -/
def fitsBuffer : PadCap → Nat → Bool
  | .unbounded, _ => true
  | .blocks n, plen => plen ≤ 64 * (n + 1)

/-- R42: the length field, the eight bytes of BITLEN with the least significant first. -/
def lengthField (bitlen : BitVec 64) : List Byte :=
  [byteOf bitlen 0, byteOf bitlen 1, byteOf bitlen 2, byteOf bitlen 3,
   byteOf bitlen 4, byteOf bitlen 5, byteOf bitlen 6, byteOf bitlen 7]

/-- R113: the padded message: the message, one 0x80 byte, zero bytes, and the length field. -/
def padMessage (msg : List Byte) (len : BitVec 64) : List Byte :=
  msg ++ [0x80] ++ List.replicate (paddedLength len.toNat - len.toNat - 9) 0 ++ lengthField (bitLength len)

/-- R19, R115: the byte of PADBUF at an index. R41 says that an index at or past PLEN never arises; such a read has a free
value here (DESIGN CHOICE, safe, log 7). -/
def padByte (padbuf : List Byte) (idx : Nat) : Byte :=
  padbuf.getD idx (Config.drawBits .padByte 8 0 idx)

/-- R43, R115: the sixteen message words of block n. -/
def blockWords (padbuf : List Byte) (n : Nat) : Vector Word 16 :=
  .ofFn fun j =>
    le32 (padByte padbuf (64 * n + 4 * j.val)) (padByte padbuf (64 * n + 4 * j.val + 1))
      (padByte padbuf (64 * n + 4 * j.val + 2)) (padByte padbuf (64 * n + 4 * j.val + 3))

/-- R116: the stage of a sub-round. -/
def stageOf (i : Fin 64) : Nat :=
  i.val / 16

/-- R116 `GIDX`: the message-word index of a sub-round. -/
def messageIndex (i : Fin 64) : Fin 16 :=
  match stageOf i with
  | 0 => ⟨i.val % 16, by omega⟩
  | 1 => ⟨(5 * i.val + 1) % 16, by omega⟩
  | 2 => ⟨(3 * i.val + 5) % 16, by omega⟩
  | _ => ⟨(7 * i.val) % 16, by omega⟩

/-- R123 `hexdigit`: the ASCII code of a lowercase hexadecimal digit. -/
def hexDigit (v : Nat) : Byte :=
  if v < 10 then BitVec.ofNat 8 (0x30 + v) else BitVec.ofNat 8 (0x61 + (v - 10))

/-- R44, R123: byte m of the digest, the words in state order and each word's least significant byte first. -/
def digestByte (q : Quad) (m : Nat) : Byte :=
  match m / 4 with
  | 0 => byteOf q.a (m % 4)
  | 1 => byteOf q.b (m % 4)
  | 2 => byteOf q.c (m % 4)
  | _ => byteOf q.d (m % 4)

end Sys2Proof.Machine
end

