-- ==== Sys2Proof/Machine/Flags.lean ====
section
/-! DEFINITION. The status flags (spec/10_state.md R26, R33, R34): what an issue step, a completing step and a failing step
do to them, the two status words, and when a result register is valid. No data operation writes a flag (R26). -/

namespace Sys2Proof.Machine

/-- R66: the flags of CIPH after an issue step. -/
def Ciph.flagsIssued (c : Ciph) : Ciph := { c with busy := true, done := false }

/-- R26, R88: the flags of CIPH after the OUT step. -/
def Ciph.flagsDone (c : Ciph) : Ciph := { c with busy := false, done := true }

/-- R67, R167: the flags of DIG after an issue step, which also leaves the error condition. -/
def Dig.flagsIssued (d : Dig) : Dig := { d with busy := true, done := false, err := false, cause := 0 }

/-- R33, R123: the flags of DIG after the RENDER step. -/
def Dig.flagsDone (d : Dig) : Dig := { d with busy := false, done := true }

/-- R160: the flags of DIG after the failing PADGEN step, with cause code 1. -/
def Dig.flagsFailed (d : Dig) : Dig := { d with busy := false, done := true, err := true, cause := 1 }

/-- R34: C_STATUS, bit 0 C_BUSY and bit 1 C_DONE. -/
def Ciph.status (c : Ciph) : BitVec 2 :=
  BitVec.ofBool c.done ++ BitVec.ofBool c.busy

/-- R34: D_STATUS, bit 0 D_BUSY, bit 1 D_DONE, bit 2 D_ERR, bits [4:3] D_CAUSE. -/
def Dig.status (d : Dig) : BitVec 5 :=
  d.cause ++ BitVec.ofBool d.err ++ BitVec.ofBool d.done ++ BitVec.ofBool d.busy

/-- R26: C_OUT is valid exactly while C_DONE = 1. -/
def Ciph.resultValid (c : Ciph) : Bool := c.done

/-- R33: HEX is valid exactly while D_DONE = 1 and D_ERR = 0. -/
def Dig.resultValid (d : Dig) : Bool := d.done && !d.err

end Sys2Proof.Machine
end

