-- ==== Sys2Proof/Machine/Ops.lean ====
section
/-! DEFINITION. The named operations the meanings share: updates of the state, the transforms of the cipher and of the
digest, the issue steps, AllocationFailure and the way out of it, the draws, and reset. -/

namespace Sys2Proof.Machine

/-! ### Updates -/

def State.setCiph (s : State) (c : Ciph) : State := { s with ciph := c }
def State.setDig (s : State) (d : Dig) : State := { s with dig := d }
def State.setPorts (s : State) (p : Ports) : State := { s with ports := p }
def State.setHost (s : State) (h : HostSide) : State := { s with host := h }
def State.setSchedule (s : State) (l : List Agent) : State := { s with schedule := l }
def State.setDraws (s : State) (n : Draws) : State := { s with draws := n }

def Ciph.setPhase (c : Ciph) (p : CPhase) : Ciph := { c with phase := p }
def Ciph.setRound (c : Ciph) (r : Fin 11) : Ciph := { c with round := r }
def Ciph.setSt (c : Ciph) (v : Vector Byte 16) : Ciph := { c with st := v }
def Ciph.setRk (c : Ciph) (v : Vector Byte 176) : Ciph := { c with rk := v }
def Ciph.setOut (c : Ciph) (v : Vector Byte 16) : Ciph := { c with out := v }
/-- R15: the operand latches, written by the issue step alone. -/
def Ciph.latch (c : Ciph) (blk key : Vector Byte 16) (dir : Bool) : Ciph := { c with blk := blk, key := key, dir := dir }

def Dig.setPhase (d : Dig) (p : DPhase) : Dig := { d with phase := p }
def Dig.setBlk (d : Dig) (n : Nat) : Dig := { d with blk := n }
def Dig.setI (d : Dig) (i : Fin 64) : Dig := { d with i := i }
def Dig.setAcc (d : Dig) (q : Quad) : Dig := { d with acc := q }
def Dig.setWork (d : Dig) (q : Quad) : Dig := { d with work := q }
def Dig.setX (d : Dig) (v : Vector Word 16) : Dig := { d with x := v }
def Dig.setHex (d : Dig) (v : Vector Byte 32) : Dig := { d with hex := v }
/-- R113: BITLEN, PLEN and PADBUF, written together. -/
def Dig.setPadded (d : Dig) (bitlen : BitVec 64) (plen : Nat) (padbuf : List Byte) : Dig :=
  { d with bitlen := bitlen, plen := plen, padbuf := padbuf }
/-- R17: the operand latches, written by the issue step alone. -/
def Dig.latch (d : Dig) (msg : List Byte) (len : BitVec 64) : Dig := { d with msg := msg, len := len }

/-! ### Cipher transforms -/

/-- R81, R82: a substitution of the sixteen bytes through a table. -/
def substitute (t : Vector Byte 256) (v : Vector Byte 16) : Vector Byte 16 :=
  .ofFn fun i => lookup t v[i]

/-- R83, R84: a permutation of the sixteen bytes; all old values are read before any is written. -/
def permute (src : Fin 16 → Fin 16) (v : Vector Byte 16) : Vector Byte 16 :=
  .ofFn fun i => v[src i]

/-- R83. -/
def shiftRows (v : Vector Byte 16) : Vector Byte 16 := permute shiftIndex v

/-- R84. -/
def invShiftRows (v : Vector Byte 16) : Vector Byte 16 := permute ishiftIndex v

/-- R85: the XOR with round-key slice r. -/
def addRoundKey (v : Vector Byte 16) (rk : Vector Byte 176) (r : Fin 11) : Vector Byte 16 :=
  .ofFn fun i => v[i] ^^^ sliceByte rk r i

/-! ### Digest transforms -/

/-- R114: the initial accumulators. -/
def ivQuad : Quad := { a := tableIv[0], b := tableIv[1], c := tableIv[2], d := tableIv[3] }

/-- R117. -/
def stageF (b c d : Word) : Word := (b &&& c) ||| (~~~b &&& d)

/-- R118. -/
def stageG (b c d : Word) : Word := (b &&& d) ||| (c &&& ~~~d)

/-- R119. -/
def stageH (b c d : Word) : Word := b ^^^ c ^^^ d

/-- R120. -/
def stageI (b c d : Word) : Word := c ^^^ (b ||| ~~~d)

/-- R116: the stage function of a stage. -/
def stageFn : Nat → Word → Word → Word → Word
  | 0 => stageF
  | 1 => stageG
  | 2 => stageH
  | _ => stageI

/-- R121: the rotation left of a word. The amounts used lie in 4..23; for other amounts it is taken modulo 32
(U14; DESIGN CHOICE, safe, log 14). -/
def rotl32 (x : Word) (n : Nat) : Word := x.rotateLeft n

/-- R116: one sub-round; every right-hand side is read before any write. -/
def subRound (x : Vector Word 16) (i : Fin 64) (w : Quad) : Quad :=
  let sum := w.a + stageFn (stageOf i) w.b w.c w.d + tableK[i] + x[messageIndex i]
  { a := w.d, b := w.b + rotl32 sum (rotAmount i), c := w.b, d := w.c }

/-- R122: the four additions modulo 2^32. -/
def Quad.add (p q : Quad) : Quad :=
  { a := p.a + q.a, b := p.b + q.b, c := p.c + q.c, d := p.d + q.d }

/-- R123: the 32 characters, for each digest byte the high nibble first. -/
def renderHex (q : Quad) : Vector Byte 32 :=
  .ofFn fun j =>
    let b := (digestByte q (j.val / 2)).toNat
    if j.val % 2 = 0 then hexDigit (b / 16) else hexDigit (b % 16)

/-! ### Issue steps, the error and the way out of it -/

/-- R66: the CIPH issue step, given that the command was decoded. It samples the ports, and is refused while the unit is
busy (R163 (a)). -/
def issueCiph (dir : Bool) (s : State) : Result :=
  if s.ciph.busy then .refused (.issueWhileBusy .cCmd)
  else .next (s.setCiph
    (((s.ciph.latch (portLanes s.ports.cBlockIn) (portLanes s.ports.cKeyIn) dir).flagsIssued).setPhase .loadst))

/-- R67, R167: the DIG issue step. It is refused while the unit is busy (R163 (a)) and where D_LEN_IN is not the number of
bytes presented (R163 (c)). It is also the return from AllocationFailure: it clears D_ERR, D_CAUSE and D_DONE. -/
def issueDig (s : State) : Result :=
  if s.dig.busy then .refused (.issueWhileBusy .dCmd)
  else if messageWf s.ports.dMsgIn s.ports.dLenIn then
    .next (s.setDig (((s.dig.latch s.ports.dMsgIn s.ports.dLenIn).flagsIssued).setPhase .padgen))
  else .refused .lengthMismatch

/-- R160, R166: AllocationFailure. Five fields change (D_ERR, D_CAUSE, D_DONE, D_BUSY, D_PHASE) and nothing else; nothing
is saved and control goes nowhere. -/
def raiseAllocationFailure (d : Dig) : Dig :=
  d.flagsFailed.setPhase .idle

/-! ### Draws -/

/-- R29, R86: the tail of the command in progress, drawn afresh or fixed by the configuration (DEDUCED, safe, log 3). -/
def tailOf (m : TailMode) (n : Draws) : Vector Byte 160 :=
  match m with
  | .fixed t => t
  | .drawn => Config.drawBytes .rkTail 160 n.inst n.tails

def Draws.nextTurn (n : Draws) : Draws := { n with turns := n.turns + 1 }
def Draws.nextTail (n : Draws) : Draws := { n with tails := n.tails + 1 }
def Draws.nextRead (n : Draws) : Draws := { n with reads := n.reads + 1 }
def Draws.nextReset (n : Draws) : Draws := { n with resets := n.resets + 1 }

/-- R10, R52: the mover when the schedule names none; nothing is known of it (DESIGN CHOICE, safe, log 5). -/
def drawnAgent (n : Draws) : Agent :=
  match Config.drawNat .agent n.inst n.turns % 3 with
  | 0 => .host
  | 1 => .ciph
  | _ => .dig

/-! ### Reset -/

/-- R180: the CIPH unit after the RESET event. Phase and flags take their reset values; every other register is drawn. -/
def drawnCiph (inst k : Nat) : Ciph :=
  { phase := .idle, busy := false, done := false,
    round := ⟨Config.drawNat .cRound inst k % 11, Nat.mod_lt _ (by decide)⟩,
    dir := Config.drawBits .cDir 1 inst k == 1#1,
    blk := Config.drawBytes .cBlk 16 inst k, key := Config.drawBytes .cKey 16 inst k,
    st := Config.drawBytes .cSt 16 inst k, rk := Config.drawBytes .cRk 176 inst k,
    out := Config.drawBytes .cOut 16 inst k }

/-- R180: the DIG unit after the RESET event. -/
def drawnDig (inst k : Nat) : Dig :=
  { phase := .idle, busy := false, done := false, err := false, cause := 0,
    blk := Config.drawNat .dBlk inst k,
    i := ⟨Config.drawNat .dI inst k % 64, Nat.mod_lt _ (by decide)⟩,
    msg := Config.drawList .dMsg inst k, len := Config.drawBits .dLen 64 inst k,
    bitlen := Config.drawBits .dBitlen 64 inst k, plen := Config.drawNat .dPlen inst k,
    padbuf := Config.drawList .dPadbuf inst k,
    acc := { a := Config.drawBits .dA 32 inst k, b := Config.drawBits .dB 32 inst k,
             c := Config.drawBits .dC 32 inst k, d := Config.drawBits .dD 32 inst k },
    work := { a := Config.drawBits .dWa 32 inst k, b := Config.drawBits .dWb 32 inst k,
              c := Config.drawBits .dWc 32 inst k, d := Config.drawBits .dWd 32 inst k },
    x := Config.drawWords .dX 16 inst k, hex := Config.drawBytes .dHex 32 inst k }

/-- R180: the RESET event, applied to both units at once. The tables are not touched. That the other
parameters (log 4), the ports, the host and the schedule (log 1) are not touched either is the model's choice. -/
def resetBlock (s : State) : State :=
  ((s.setCiph (drawnCiph s.draws.inst s.draws.resets)).setDig (drawnDig s.draws.inst s.draws.resets)).setDraws
    s.draws.nextReset

end Sys2Proof.Machine
end

