-- ==== Sys2Proof/Machine/Cipher.lean ====
section
/-! DEFINITION. The eight micro-operations of the CIPH unit (spec/40_cipher.md R81 to R88), each with the sequencer's
transition that ends its step (spec/10_state.md R25). -/

namespace Sys2Proof.Machine

/-- R87, R25. -/
def execCLoadst (s : State) : Result :=
  .next (s.setCiph ((s.ciph.setSt s.ciph.blk).setPhase .keyload))

/-- R86, R25: RK takes the key and the tail; C_ROUND takes the first slice's number. -/
def execCKeyload (s : State) : Result :=
  .next ((s.setCiph
    (((s.ciph.setRk (roundKeys s.ciph.key (tailOf s.params.tail s.draws))).setRound
      (if s.ciph.dir then 10 else 0)).setPhase .whiten)).setDraws s.draws.nextTail)

/-- R25: where the sequencer goes after C.ARK. The WHITEN rows apply in phase WHITEN; the ARK rows otherwise
(DESIGN CHOICE, safe, log 8). -/
def afterArk (c : Ciph) : Ciph :=
  match c.phase, c.dir with
  | .whiten, false => (c.setRound 1).setPhase .sub
  | .whiten, true => (c.setRound 9).setPhase .ishift
  | _, false => if h : c.round.val < 10 then (c.setRound ⟨c.round.val + 1, by omega⟩).setPhase .sub else c.setPhase .out
  | _, true => if 0 < c.round.val then (c.setRound ⟨c.round.val - 1, by omega⟩).setPhase .ishift else c.setPhase .out

/-- R85, R25. -/
def execCArk (s : State) : Result :=
  .next (s.setCiph (afterArk (s.ciph.setSt (addRoundKey s.ciph.st s.ciph.rk s.ciph.round))))

/-- R81, R25. -/
def execCSub (s : State) : Result :=
  .next (s.setCiph ((s.ciph.setSt (substitute s.params.sbox s.ciph.st)).setPhase .shift))

/-- R83, R25. -/
def execCShift (s : State) : Result :=
  .next (s.setCiph ((s.ciph.setSt (shiftRows s.ciph.st)).setPhase .ark))

/-- R82, R25. -/
def execCIsub (s : State) : Result :=
  .next (s.setCiph ((s.ciph.setSt (substitute s.params.invSbox s.ciph.st)).setPhase .ark))

/-- R84, R25. -/
def execCIshift (s : State) : Result :=
  .next (s.setCiph ((s.ciph.setSt (invShiftRows s.ciph.st)).setPhase .isub))

/-- R88, R25. -/
def execCOut (s : State) : Result :=
  .next (s.setCiph (((s.ciph.setOut s.ciph.st).flagsDone).setPhase .idle))

end Sys2Proof.Machine
end

