-- ==== Sys2Proof/Machine/Command.lean ====
section
/-! DEFINITION. The three commands (spec/30_encoding.md R60 to R67). A command's own step is the issue step; the unit then
runs its sequence of micro-operations (spec/10_state.md R25, R32), whose end is the result of spec/40_cipher.md R89, R90
and spec/41_digest.md R110. -/

namespace Sys2Proof.Machine

/-- R66, R89: the issue step with C_DIR = 0. -/
def execEnc (s : State) : Result := issueCiph false s

/-- R66, R90: the issue step with C_DIR = 1. -/
def execDec (s : State) : Result := issueCiph true s

/-- R67, R110. -/
def execHash (s : State) : Result := issueDig s

end Sys2Proof.Machine
end

