-- ==== Sys2Proof/Machine/Digest.lean ====
section
/-! DEFINITION. The six micro-operations of the DIG unit (spec/41_digest.md R113 to R123), each with the sequencer's
transition that ends its step (spec/10_state.md R32). -/

namespace Sys2Proof.Machine

/-- R113, R160, R32: the padded message where it fits the buffer, AllocationFailure where it does not. -/
def execDPadgen (s : State) : Result :=
  .next (s.setDig
    (if fitsBuffer s.params.padCap (paddedLength s.dig.len.toNat) then
      (s.dig.setPadded (bitLength s.dig.len) (paddedLength s.dig.len.toNat) (padMessage s.dig.msg s.dig.len)).setPhase .init
    else raiseAllocationFailure s.dig))

/-- R114, R32. -/
def execDInit (s : State) : Result :=
  .next (s.setDig (((s.dig.setAcc ivQuad).setBlk 0).setPhase .loadx))

/-- R115, R32. -/
def execDLoadx (s : State) : Result :=
  .next (s.setDig
    ((((s.dig.setX (blockWords s.dig.padbuf s.dig.blk)).setWork s.dig.acc).setI 0).setPhase .step))

/-- R32: where the sequencer goes after a sub-round. -/
def afterStep (d : Dig) : Dig :=
  if h : d.i.val < 63 then (d.setI ⟨d.i.val + 1, by omega⟩).setPhase .step else d.setPhase .addback

/-- R116, R32. -/
def execDStep (s : State) : Result :=
  .next (s.setDig (afterStep (s.dig.setWork (subRound s.dig.x s.dig.i s.dig.work))))

/-- R32: where the sequencer goes after the add-back (past R31's bound on D_BLK too: DESIGN CHOICE, safe, log 8). -/
def afterAddback (d : Dig) : Dig :=
  if d.blk + 1 < blockCount d.plen then (d.setBlk (d.blk + 1)).setPhase .loadx else d.setPhase .render

/-- R122, R32. -/
def execDAddback (s : State) : Result :=
  .next (s.setDig (afterAddback (s.dig.setAcc (s.dig.acc.add s.dig.work))))

/-- R123, R32. -/
def execDRender (s : State) : Result :=
  .next (s.setDig (((s.dig.setHex (renderHex s.dig.acc)).flagsDone).setPhase .idle))

end Sys2Proof.Machine
end

