-- ==== Sys2Proof/Machine/Dispatch.lean ====
section
/-! DEFINITION. One arm for each operation. -/

namespace Sys2Proof.Machine

def exec (i : Instr) (s : State) : Host.Outcome State Fault Refusal :=
  match i with
  | .enc => Sys2Proof.Machine.execEnc s
  | .dec => Sys2Proof.Machine.execDec s
  | .hash => Sys2Proof.Machine.execHash s
  | .cLoadst => Sys2Proof.Machine.execCLoadst s
  | .cKeyload => Sys2Proof.Machine.execCKeyload s
  | .cArk => Sys2Proof.Machine.execCArk s
  | .cSub => Sys2Proof.Machine.execCSub s
  | .cShift => Sys2Proof.Machine.execCShift s
  | .cIsub => Sys2Proof.Machine.execCIsub s
  | .cIshift => Sys2Proof.Machine.execCIshift s
  | .cOut => Sys2Proof.Machine.execCOut s
  | .dPadgen => Sys2Proof.Machine.execDPadgen s
  | .dInit => Sys2Proof.Machine.execDInit s
  | .dLoadx => Sys2Proof.Machine.execDLoadx s
  | .dStep => Sys2Proof.Machine.execDStep s
  | .dAddback => Sys2Proof.Machine.execDAddback s
  | .dRender => Sys2Proof.Machine.execDRender s

end Sys2Proof.Machine
end

