-- ==== Sys2Proof/Machine/Agents.lean ====
section
/-! DEFINITION. The three agents (spec/10_state.md R10): what a turn of each does, and who has the turn. A unit's turn runs
the micro-operation its phase names (R25, R32); the host's turn makes the first move of its queue (R177). -/

namespace Sys2Proof.Machine

/-- R24, R25: the micro-operation a CIPH phase names; WHITEN executes C.ARK, and IDLE has no step. -/
def ciphUop : CPhase → Option Instr
  | .idle => none
  | .loadst => some .cLoadst
  | .keyload => some .cKeyload
  | .whiten => some .cArk
  | .sub => some .cSub
  | .shift => some .cShift
  | .ishift => some .cIshift
  | .isub => some .cIsub
  | .ark => some .cArk
  | .out => some .cOut

/-- R31, R32: the micro-operation a DIG phase names; IDLE has no step. -/
def digUop : DPhase → Option Instr
  | .idle => none
  | .padgen => some .dPadgen
  | .init => some .dInit
  | .loadx => some .dLoadx
  | .step => some .dStep
  | .addback => some .dAddback
  | .render => some .dRender

/-- A turn of a unit: the operation named, or nothing where none is (R25, R32, U15: an idle unit waits). -/
def unitTurn (u : Option Instr) (s : State) : Result :=
  match u with
  | none => .next s
  | some i => exec i s

/-- R25: a turn of CIPH. -/
def ciphTurn (s : State) : Result := unitTurn (ciphUop s.ciph.phase) s

/-- R32: a turn of DIG. -/
def digTurn (s : State) : Result := unitTurn (digUop s.dig.phase) s

/-- R34, R163: what C_BLOCK_OUT reads as, and the draw counters after. While C_DONE = 0 the value is drawn
(a fresh one for each read: DEDUCED, safe, log 9). -/
def readBlockOut (s : State) : BitVec 128 × Draws :=
  if s.ciph.resultValid then (packLanes s.ciph.out, s.draws)
  else (Config.drawBits .blockRead 128 s.draws.inst s.draws.reads, s.draws.nextRead)

/-- R34, R163, R166: what D_HEX_OUT reads as, and the draw counters after. While D_DONE = 0 or D_ERR = 1 the value is
drawn (log 9). -/
def readHexOut (s : State) : BitVec 256 × Draws :=
  if s.dig.resultValid then (packLanes s.dig.hex, s.draws)
  else (Config.drawBits .hexRead 256 s.draws.inst s.draws.reads, s.draws.nextRead)

/-- The host receives a value. -/
def receive (r : HostRead) (s : State) : State :=
  s.setHost { s.host with received := r :: s.host.received }

/-- R64, R66, R67: a byte written to a command port. A reserved byte is reported before a busy unit (log 15). -/
def writeCommand (p : CmdPort) (b : Byte) (s : State) : Result :=
  match decodeOn p b with
  | .ok i => exec i s
  | .error _ => .refused (.reservedCommand p b)

/-- R177, R180: one move of the host, or RESET in its place (log 17). -/
def hostMove (a : HostAction) (s : State) : Result :=
  match a with
  | .driveCiph block key => .next (s.setPorts { s.ports with cBlockIn := block, cKeyIn := key })
  | .driveDig msg len => .next (s.setPorts { s.ports with dMsgIn := msg, dLenIn := len })
  | .writeCmd p b => writeCommand p b s
  | .readCStatus => .next (receive (.cStatus s.ciph.status) s)
  | .readDStatus => .next (receive (.dStatus s.dig.status) s)
  | .readCBlockOut => .next ((receive (.cBlockOut (readBlockOut s).1) s).setDraws (readBlockOut s).2)
  | .readDHexOut => .next ((receive (.dHexOut (readHexOut s).1) s).setDraws (readHexOut s).2)
  | .reset => .next (resetBlock s)

/-- R10 (c): a turn of the host, which makes its first pending move; with none pending it does nothing. -/
def hostTurn (s : State) : Result :=
  match s.host.queue with
  | [] => .next s
  | a :: rest => hostMove a (s.setHost { s.host with queue := rest })

/-- R10, R52: who has the turn, and the state with that turn used up. The schedule says; where it is empty the mover is
drawn (DESIGN CHOICE, safe, log 5). -/
def takeTurn (s : State) : Agent × State :=
  match s.schedule with
  | a :: rest => (a, s.setSchedule rest)
  | [] => (drawnAgent s.draws, s.setDraws s.draws.nextTurn)

/-- R10: a turn of an agent. -/
def agentTurn (a : Agent) (s : State) : Result :=
  match a with
  | .host => hostTurn s
  | .ciph => ciphTurn s
  | .dig => digTurn s

/-- The command port that a byte is written to when it is placed as a command: bits [7:4] = 1 is DIG's, any other CIPH's
(R61). -/
def portOf (b : Byte) : CmdPort :=
  if (cmdUnit b).toNat = 1 then .dCmd else .cCmd

/-- The state in which the host's next move, and the next turn, is the write of a command byte. -/
def placeCommand (b : Byte) (s : State) : State :=
  (s.setHost { s.host with queue := .writeCmd (portOf b) b :: s.host.queue }).setSchedule (.host :: s.schedule)

/-- The state in which CIPH stands in a phase and has the next turn. -/
def placeCiph (p : CPhase) (s : State) : State :=
  (s.setCiph (s.ciph.setPhase p)).setSchedule (.ciph :: s.schedule)

/-- The state in which DIG stands in a phase and has the next turn. -/
def placeDig (p : DPhase) (s : State) : State :=
  (s.setDig (s.dig.setPhase p)).setSchedule (.dig :: s.schedule)

/-- The state whose next step runs the operation of a byte: a command is written by the host (R66, R67), a micro-operation
is the one the sequencer's phase names (R63). -/
def placeByte (b : Byte) (s : State) : State :=
  match decode b with
  | .ok .cLoadst => placeCiph .loadst s
  | .ok .cKeyload => placeCiph .keyload s
  | .ok .cArk => placeCiph .ark s
  | .ok .cSub => placeCiph .sub s
  | .ok .cShift => placeCiph .shift s
  | .ok .cIsub => placeCiph .isub s
  | .ok .cIshift => placeCiph .ishift s
  | .ok .cOut => placeCiph .out s
  | .ok .dPadgen => placeDig .padgen s
  | .ok .dInit => placeDig .init s
  | .ok .dLoadx => placeDig .loadx s
  | .ok .dStep => placeDig .step s
  | .ok .dAddback => placeDig .addback s
  | .ok .dRender => placeDig .render s
  | .ok .enc => placeCommand b s
  | .ok .dec => placeCommand b s
  | .ok .hash => placeCommand b s
  | .error _ => placeCommand b s

end Sys2Proof.Machine
end

