-- ==== Sys2Proof/Machine/Step.lean ====
section
/-! DEFINITION. One step of the machine, and how an operation is made the next one. -/

namespace Sys2Proof.Machine

/-- R10: one step of one agent, whose turn the schedule names or a draw picks. -/
def step (s : State) : Host.Outcome State Fault Refusal :=
  agentTurn (takeTurn s).1 (takeTurn s).2

/-- The state whose very next step runs the operation of an opcode-table row. A command is placed as the host's next move;
a micro-operation by the phase that names it (log 6). -/
def State.withFetchWord (s : State) (nbits w : Nat) : State :=
  placeByte (tableByte nbits w) s

end Sys2Proof.Machine
end

