-- ==== Sys2Proof/Machine/Platform.lean ====
section
/-! DEFINITION. Several instances of the CORE (spec/60_exceptions.md R176, parameter N_INST of spec/00_scope.md R6):
independent states with the same tables, of which any one may take the next step. -/

namespace Sys2Proof.Machine

/-- R6, R176: the instances of a platform, in some order that no command sees. There are N_INST = `extra + 1` of them, so at
least one. -/
abbrev Platform (extra : Nat) := Vector State (extra + 1)

/-- R176: the instances at reset, idle and with the same parameters. Each has a number of its own for its draws, so that
nothing relates the draws of two (DESIGN CHOICE, safe, log 10). -/
def Platform.reset (extra : Nat) : Platform extra :=
  .ofFn fun k => { State.reset with draws := { State.reset.draws with inst := k.val } }

/-- R176: a step of instance k. -/
def Platform.stepAt {extra : Nat} (p : Platform extra) (k : Fin (extra + 1)) :
    Host.Outcome (Platform extra) Fault Refusal :=
  match step p[k] with
  | .next t => .next (p.set k t)
  | .fault r => .fault r
  | .refused r => .refused r

end Sys2Proof.Machine
end

