-- ==== Sys2Proof/Machine/Run.lean ====
section
/-! DEFINITION. Runs of the machine, and the one liveness assumption the spec makes of them: weak fairness
(spec/70_reset_and_hazards.md R188, D16). A run is a sequence of states that `step` leads through. -/

namespace Sys2Proof.Machine

/-- R10: the agent whose turn the next step is. -/
def State.mover (s : State) : Agent := (takeTurn s).1

/-- R180: the next step is the RESET event. -/
def State.takesReset (s : State) : Prop :=
  s.mover = .host ∧ ∃ rest, s.host.queue = .reset :: rest

/-- R25, R32, U15: a unit has an enabled step exactly while its phase is not IDLE; the host is not bound to move. -/
def State.enabled (s : State) : Agent → Prop
  | .host => False
  | .ciph => s.ciph.phase ≠ .idle
  | .dig => s.dig.phase ≠ .idle

/-- A run without end in which every step answers a next state, `f n` the state after n steps. -/
def IsRun (f : Nat → State) : Prop :=
  ∀ n, step (f n) = .next (f (n + 1))

/-- R188: weak fairness. A unit whose step stays enabled from some point on takes a step after that point. -/
def WeaklyFair (f : Nat → State) : Prop :=
  ∀ (a : Agent) (n : Nat), (∀ m, n ≤ m → (f m).enabled a) → ∃ m, n ≤ m ∧ (f m).mover = a

/-- R188: the runs the spec speaks of. -/
def FairRun (f : Nat → State) : Prop :=
  IsRun f ∧ WeaklyFair f

end Sys2Proof.Machine
end

