-- ==== Sys2Proof/Machine/BigStep.lean ====
section
/-! DEFINITION. The big-step meanings of the commands (spec/40_cipher.md R89, R90; spec/41_digest.md R110). No step calls
them: they say what a command's sequence of micro-operations comes to. -/

namespace Sys2Proof.Machine

/-- R89: one round of ENC, with round-key slice r. -/
def encRound (p : Params) (rk : Vector Byte 176) (r : Fin 11) (v : Vector Byte 16) : Vector Byte 16 :=
  addRoundKey (shiftRows (substitute p.sbox v)) rk r

/-- R89: the cipher state after the whitening and n rounds of ENC, n up to 10; round n uses slice n. -/
def encRounds (p : Params) (rk : Vector Byte 176) (block : Vector Byte 16) : Nat → Vector Byte 16
  | 0 => addRoundKey block rk 0
  | n + 1 => encRound p rk (Fin.ofNat 11 (n + 1)) (encRounds p rk block n)

/-- R89: the result of ENC for the whole round-key material. -/
def encBlock (p : Params) (rk : Vector Byte 176) (block : Vector Byte 16) : Vector Byte 16 :=
  encRounds p rk block 10

/-- R90: one round of DEC, with round-key slice r. -/
def decRound (p : Params) (rk : Vector Byte 176) (r : Fin 11) (v : Vector Byte 16) : Vector Byte 16 :=
  addRoundKey (substitute p.invSbox (invShiftRows v)) rk r

/-- R90: the cipher state after the whitening with slice 10 and n rounds of DEC, n up to 10; round n uses slice 10 - n. -/
def decRounds (p : Params) (rk : Vector Byte 176) (block : Vector Byte 16) : Nat → Vector Byte 16
  | 0 => addRoundKey block rk 10
  | n + 1 => decRound p rk (Fin.ofNat 11 (9 - n)) (decRounds p rk block n)

/-- R90: the result of DEC for the whole round-key material. -/
def decBlock (p : Params) (rk : Vector Byte 176) (block : Vector Byte 16) : Vector Byte 16 :=
  decRounds p rk block 10

/-- R110: the working registers after the first n sub-rounds of a block, n up to 64. -/
def subRounds (x : Vector Word 16) (start : Quad) : Nat → Quad
  | 0 => start
  | n + 1 => subRound x (Fin.ofNat 64 n) (subRounds x start n)

/-- R110 `Compress`. -/
def compress (acc : Quad) (x : Vector Word 16) : Quad :=
  acc.add (subRounds x acc 64)

/-- R110: the accumulators after the first n blocks of a padded message. -/
def chain (padbuf : List Byte) : Nat → Quad
  | 0 => ivQuad
  | n + 1 => compress (chain padbuf n) (blockWords padbuf n)

/-- R110: the 32 characters that HASH gives for a message of the stated length. -/
def digestHex (msg : List Byte) (len : BitVec 64) : Vector Byte 32 :=
  renderHex (chain (padMessage msg len) (blockCount (paddedLength len.toNat)))

end Sys2Proof.Machine
end

