-- ==== Sys2Proof/Safety.lean ====
section
/-! DEFINITION. What holds in a state of a safe run: the sequencers and flags are in a legal combination, each unit's data
are what its command has computed so far, and a valid result is the command's result. -/

namespace Sys2Proof.Machine

/-- R24, R25, R26: the legal combinations of C_PHASE, C_ROUND, C_DIR, C_BUSY and C_DONE. -/
def Ciph.sequencerOk (c : Ciph) : Prop :=
  match c.phase with
  | .idle => c.busy = false
  | .loadst => c.busy = true ∧ c.done = false
  | .keyload => c.busy = true ∧ c.done = false
  | .whiten => c.busy = true ∧ c.done = false ∧ c.round = if c.dir then 10 else 0
  | .sub => c.busy = true ∧ c.done = false ∧ c.dir = false ∧ 1 ≤ c.round.val
  | .shift => c.busy = true ∧ c.done = false ∧ c.dir = false ∧ 1 ≤ c.round.val
  | .ishift => c.busy = true ∧ c.done = false ∧ c.dir = true ∧ c.round.val ≤ 9
  | .isub => c.busy = true ∧ c.done = false ∧ c.dir = true ∧ c.round.val ≤ 9
  | .ark => c.busy = true ∧ c.done = false ∧ if c.dir then c.round.val ≤ 9 else 1 ≤ c.round.val
  | .out => c.busy = true ∧ c.done = false ∧ c.round = if c.dir then 0 else 10

/-- R14, R86: slice 0 of RK is the key. -/
def Ciph.keyInRk (c : Ciph) : Prop :=
  ∀ i : Fin 16, sliceByte c.rk 0 i = c.key[i]

/-- R178: the result of the command in the operand latches, for the RK it has read. -/
def Ciph.result (p : Params) (c : Ciph) : Vector Byte 16 :=
  if c.dir then decBlock p c.rk c.blk else encBlock p c.rk c.blk

/-- R91, R92: the cipher state after n rounds of the command in the operand latches. -/
def Ciph.afterRounds (p : Params) (c : Ciph) (n : Nat) : Vector Byte 16 :=
  if c.dir then decRounds p c.rk c.blk n else encRounds p c.rk c.blk n

/-- R91, R92, R178: what ST, RK and C_OUT hold in each phase. In a round of ENC, C_ROUND - 1 rounds are complete; in a
round of DEC, 9 - C_ROUND are. -/
def Ciph.dataOk (p : Params) (c : Ciph) : Prop :=
  match c.phase with
  | .idle => c.done = true → c.keyInRk ∧ c.out = c.result p
  | .loadst => True
  | .keyload => c.st = c.blk
  | .whiten => c.keyInRk ∧ c.st = c.blk
  | .sub => c.keyInRk ∧ c.st = c.afterRounds p (c.round.val - 1)
  | .shift => c.keyInRk ∧ c.st = substitute p.sbox (c.afterRounds p (c.round.val - 1))
  | .ishift => c.keyInRk ∧ c.st = c.afterRounds p (9 - c.round.val)
  | .isub => c.keyInRk ∧ c.st = invShiftRows (c.afterRounds p (9 - c.round.val))
  | .ark => c.keyInRk ∧ c.st = if c.dir then substitute p.invSbox (invShiftRows (c.afterRounds p (9 - c.round.val)))
      else shiftRows (substitute p.sbox (c.afterRounds p (c.round.val - 1)))
  | .out => c.keyInRk ∧ c.st = c.result p

/-- The CIPH unit of a safe run. -/
def Ciph.Inv (p : Params) (c : Ciph) : Prop :=
  c.sequencerOk ∧ c.dataOk p

/-- R33, R34: the four legal combinations of BUSY, DONE, ERR and CAUSE. -/
def Dig.statusLegal (d : Dig) : Prop :=
  d.status = 0b00000 ∨ d.status = 0b00001 ∨ d.status = 0b00010 ∨ d.status = 0b01110

/-- R31, R33: the legal combinations of D_PHASE and the flags. -/
def Dig.sequencerOk (d : Dig) : Prop :=
  d.statusLegal ∧ (d.busy = true ↔ d.phase ≠ .idle)

/-- R17: MSG has LEN elements. -/
def Dig.messageOk (d : Dig) : Prop :=
  d.msg.length = d.len.toNat

/-- R18, R19, R160: BITLEN, PLEN and PADBUF are those of the message, and the buffer holds them. -/
def Dig.paddedOk (p : Params) (d : Dig) : Prop :=
  d.bitlen = bitLength d.len ∧ d.plen = paddedLength d.len.toNat ∧ d.padbuf = padMessage d.msg d.len ∧
    fitsBuffer p.padCap d.plen = true

/-- R124, R178: what the data registers hold in each phase. -/
def Dig.dataOk (p : Params) (d : Dig) : Prop :=
  match d.phase with
  | .idle => d.done = true → d.messageOk ∧
      if d.err then fitsBuffer p.padCap (paddedLength d.len.toNat) = false
      else d.hex = digestHex d.msg d.len ∧ fitsBuffer p.padCap (paddedLength d.len.toNat) = true
  | .padgen => d.messageOk
  | .init => d.messageOk ∧ d.paddedOk p
  | .loadx => d.messageOk ∧ d.paddedOk p ∧ d.blk < blockCount d.plen ∧ d.acc = chain d.padbuf d.blk
  | .step => d.messageOk ∧ d.paddedOk p ∧ d.blk < blockCount d.plen ∧ d.acc = chain d.padbuf d.blk ∧
      d.x = blockWords d.padbuf d.blk ∧ d.work = subRounds d.x d.acc d.i.val
  | .addback => d.messageOk ∧ d.paddedOk p ∧ d.blk < blockCount d.plen ∧ d.acc = chain d.padbuf d.blk ∧
      d.x = blockWords d.padbuf d.blk ∧ d.work = subRounds d.x d.acc 64
  | .render => d.messageOk ∧ d.paddedOk p ∧ d.acc = chain d.padbuf (blockCount d.plen)

/-- The DIG unit of a safe run. -/
def Dig.Inv (p : Params) (d : Dig) : Prop :=
  d.sequencerOk ∧ d.dataOk p

/-- A state of a safe run. -/
def State.Inv (s : State) : Prop :=
  s.ciph.Inv s.params ∧ s.dig.Inv s.params

/-- R178: a final state, both units idle and not busy. -/
def State.final (s : State) : Prop :=
  s.ciph.phase = .idle ∧ s.ciph.busy = false ∧ s.dig.phase = .idle ∧ s.dig.busy = false

/-- R19, R47: the buffer is whole blocks, of which the last eight bytes hold BITLEN. This is the form of the block's one
buffer of variable size while a command reads it; positions in a list are its addresses, so equal buffers are equal lists. -/
def Dig.bufferOk (d : Dig) : Prop :=
  d.padbuf.length = d.plen ∧ d.plen % 64 = 0 ∧ 64 ≤ d.plen ∧ d.padbuf.drop (d.plen - 8) = lengthField d.bitlen

/-- R177: the state in which the host's next move is `a` and the host has the turn. Every state whose schedule begins with
the host and whose queue is not empty is of this form. -/
def State.hostNext (s : State) (a : HostAction) : State :=
  { s with host := { s.host with queue := a :: s.host.queue }, schedule := .host :: s.schedule }

/-- R91, R92: the identifiers of the micro-operations that CIPH runs in its next n turns, up to the end of its command. -/
def ciphTrace : Nat → State → List Byte
  | 0, _ => []
  | n + 1, s =>
    match ciphUop s.ciph.phase with
    | none => []
    | some i => encode i :: (match exec i s with | .next t => ciphTrace n t | .fault _ => [] | .refused _ => [])

/-- R124: the identifiers of the micro-operations that DIG runs in its next n turns, up to the end of its command. A PADGEN
turn that raises AllocationFailure is listed as 0x90 like any other: the spec puts the error at D.PADGEN (R113, R162) and also
says that `90` is not performed there (R32, program P3), and leaves open how a trace labels the turn (DESIGN CHOICE, safe,
log 16). -/
def digTrace : Nat → State → List Byte
  | 0, _ => []
  | n + 1, s =>
    match digUop s.dig.phase with
    | none => []
    | some i => encode i :: (match exec i s with | .next t => digTrace n t | .fault _ => [] | .refused _ => [])

end Sys2Proof.Machine
end

