-- ==== Sys2Proof/Certificates/Slice0/Obligations.lean ====
section
/-! DEFINITION. The statements for the provers. Each says what a rule of spec/ says a micro-operation, a command, the host's
move or the whole block does. -/

open Sys2Proof Sys2Proof.Machine

namespace Sys2Proof.Statements

/-- A CIPH turn runs operation `i` and ends in phase `p` with C_ROUND = `r` (a row of R25's table). -/
def ciphRow (s : State) (i : Instr) (p : CPhase) (r : Nat) : Prop :=
  ∃ t, ciphTurn s = .next t ∧ exec i s = .next t ∧ t.ciph.phase = p ∧ t.ciph.round.val = r

/-- A DIG turn runs operation `i` and ends in phase `p` with D_BLK = `n` and D_I = `j` (a row of R32's table). -/
def digRow (s : State) (i : Instr) (p : DPhase) (n j : Nat) : Prop :=
  ∃ t, digTurn s = .next t ∧ exec i s = .next t ∧ t.dig.phase = p ∧ t.dig.blk = n ∧ t.dig.i.val = j

/-- R83: the index table SR of the left row shift. -/
def tableSr : Vector (Fin 16) 16 := #v[0, 5, 10, 15, 4, 9, 14, 3, 8, 13, 2, 7, 12, 1, 6, 11]

/-- R84: the index table ISR of the right row shift. -/
def tableIsr : Vector (Fin 16) 16 := #v[0, 13, 10, 7, 4, 1, 14, 11, 8, 5, 2, 15, 12, 9, 6, 3]

/-- R95: SR applied ten times. -/
def tableSr10 : Vector (Fin 16) 16 := #v[0, 9, 2, 11, 4, 13, 6, 15, 8, 1, 10, 3, 12, 5, 14, 7]

/-- The tail of RK_TAIL_ZERO. -/
def zeroTail : Vector Byte 160 := .replicate 160 0

/-- R123: the character code of a hexadecimal digit. -/
def digitCode (v : Nat) : Nat := if v < 10 then 0x30 + v else 0x61 + (v - 10)

/-- R34: the codes HEX may hold, '0' to '9' and 'a' to 'f'. -/
def isDigitCode (b : Byte) : Prop := (0x30 ≤ b.toNat ∧ b.toNat ≤ 0x39) ∨ (0x61 ≤ b.toNat ∧ b.toNat ≤ 0x66)

/-- R116: the message-word index by the four stage formulas. -/
def stageWord (i : Nat) : Nat :=
  if i < 16 then i else if i < 32 then (5 * i + 1) % 16 else if i < 48 then (3 * i + 5) % 16 else (7 * i) % 16

/-- R116 to R120: the stage function of sub-round i on the values before the step. -/
def stageValue (i : Nat) (b c d : Word) : Word :=
  if i < 16 then (b &&& c) ||| (~~~b &&& d) else if i < 32 then (b &&& d) ||| (c &&& ~~~d)
  else if i < 48 then b ^^^ c ^^^ d else c ^^^ (b ||| ~~~d)

/-- R60: the direction bit of a cipher command. -/
def cipherCommand (i : Instr) (dir : Bool) : Prop := (i = .enc ∧ dir = false) ∨ (i = .dec ∧ dir = true)

/-- R6, R160: the padded message of `len` bytes is larger than the buffer. -/
def tooLong (p : Params) (len : BitVec 64) : Prop :=
  ∃ n, p.padCap = .blocks n ∧ 64 * (n + 1) < 64 * ((len.toNat + 8) / 64 + 1)

end Sys2Proof.Statements

open Sys2Proof.Statements

/-! ### Encoding and decoding -/

/-- R62, R63: bytes written out from the spec's tables decode to their operations, and unused ones to none. -/
def Obligations.WrittenBytesDecode : Prop :=
  decode 0x00 = .ok .enc ∧ decode 0x01 = .ok .dec ∧ decode 0x10 = .ok .hash ∧
  decode 0x80 = .ok .cLoadst ∧ decode 0x82 = .ok .cArk ∧ decode 0x85 = .ok .cIsub ∧ decode 0x86 = .ok .cIshift ∧
  decode 0x90 = .ok .dPadgen ∧ decode 0x93 = .ok .dStep ∧ decode 0x95 = .ok .dRender ∧
  decode 0x02 = .error .reservedCommand ∧ decode 0x7f = .error .reservedCommand ∧
  decode 0x88 = .error .unusedIdentifier ∧ decode 0xa0 = .error .unusedIdentifier ∧
  decodeOn .cCmd 0x10 = .error .wrongUnit ∧ decodeOn .dCmd 0x00 = .error .wrongUnit ∧
  decodeOn .cCmd 0x80 = .error .reservedCommand

/-- R62, R63, R69: a byte decodes to an operation exactly when it is that operation's byte, so no bit of an encoding is
dropped and no two operations share a byte. -/
def Obligations.ByteStandsForOneOperation : Prop :=
  ∀ (b : Byte) (i : Instr), decode b = .ok i ↔ encode i = b

/-- R64: every byte but 0x00 and 0x01 written to C_CMD, and every byte but 0x10 written to D_CMD, is refused. -/
def Obligations.ReservedCommandIsRefused : Prop :=
  ∀ (s : State) (p : CmdPort) (b : Byte), (p = .cCmd → b ≠ 0x00 ∧ b ≠ 0x01) → (p = .dCmd → b ≠ 0x10) →
    step (s.hostNext (.writeCmd p b)) = .refused (.reservedCommand p b)

/-! ### A step runs the decoded operation -/

/-- R62, R66, R67: when the host, having the turn, writes a byte that its port decodes to an operation, the step is that
operation's `exec` in the state with the move and the turn used up. The same holds of a command placed by withFetchWord, which
is the model's choice and no rule's: it makes the command the host's next move (log 6). -/
def Obligations.StepRunsTheWrittenCommand : Prop :=
  (∀ (s : State) (p : CmdPort) (b : Byte) (i : Instr), decodeOn p b = .ok i →
    step (s.hostNext (.writeCmd p b)) = exec i s) ∧
  (∀ (s : State) (i : Instr), (i.wfOn .cCmd || i.wfOn .dCmd) = true →
    step (s.withFetchWord 8 (encode i).toNat) = exec i s)

/-- R25, R32, R63: when a unit has the turn, the step is `exec` of the micro-operation its phase names, in the state with
the turn used up; in phase IDLE nothing else changes. The model's choice and no rule's (log 5): that the schedule says whose
turn it is, that an idle unit's turn and the turn of a host with no move pending use up the turn and change nothing else, and
that one of the three agents moves, with the count of drawn turns one higher, where the schedule names nobody. -/
def Obligations.StepRunsThePhasesOperation : Prop :=
  (∀ (s : State) (l : List Agent) (i : Instr), s.schedule = .ciph :: l → ciphUop s.ciph.phase = some i →
    step s = exec i (s.setSchedule l)) ∧
  (∀ (s : State) (l : List Agent) (i : Instr), s.schedule = .dig :: l → digUop s.dig.phase = some i →
    step s = exec i (s.setSchedule l)) ∧
  (∀ (s : State) (l : List Agent), s.schedule = .ciph :: l → s.ciph.phase = .idle → step s = .next (s.setSchedule l)) ∧
  (∀ (s : State) (l : List Agent), s.schedule = .dig :: l → s.dig.phase = .idle → step s = .next (s.setSchedule l)) ∧
  (∀ (s : State) (l : List Agent), s.schedule = .host :: l → s.host.queue = [] → step s = .next (s.setSchedule l)) ∧
  (∀ s : State, s.schedule = [] → ∃ a, step s = agentTurn a (s.setDraws s.draws.nextTurn))

/-- R63: a micro-operation placed by withFetchWord is what the next step runs, in a state that differs in its unit's phase
only. That withFetchWord places it by the phase is the model's choice (log 6). -/
def Obligations.PlacedMicroOperationRuns : Prop :=
  ∀ (s : State) (i : Instr), (i.wfOn .cCmd || i.wfOn .dCmd) = false →
    ∃ p q, step (s.withFetchWord 8 (encode i).toNat) = exec i ((s.setCiph (s.ciph.setPhase p)).setDig (s.dig.setPhase q)) ∧
      ((ciphUop p = some i ∧ q = s.dig.phase) ∨ (digUop q = some i ∧ p = s.ciph.phase))

/-! ### The issue steps -/

/-- R66: a cipher command samples the 16 block lanes and the 16 key lanes, sets C_DIR to bit 0 of the command, BUSY to 1 and
DONE to 0, and enters LOADST, if the unit is not busy; nothing else changes. If it is busy the command is refused, and so is
every other byte written to the port. -/
def Obligations.CipherIssueLatchesOperands : Prop :=
  ∀ (s : State) (i : Instr) (dir : Bool), cipherCommand i dir →
    (s.ciph.busy = true → exec i s = .refused (.issueWhileBusy .cCmd)) ∧
    (s.ciph.busy = false → ∃ t, exec i s = .next t ∧
      (∀ (j : Fin 16) (k : Fin 8), t.ciph.blk[j].getLsbD k.val = s.ports.cBlockIn.getLsbD (8 * j.val + k.val)) ∧
      (∀ (j : Fin 16) (k : Fin 8), t.ciph.key[j].getLsbD k.val = s.ports.cKeyIn.getLsbD (8 * j.val + k.val)) ∧
      t.ciph.dir = (encode i).getLsbD 0 ∧
      t = { s with ciph := { s.ciph with blk := t.ciph.blk, key := t.ciph.key, dir := dir,
                                         busy := true, done := false, phase := .loadst } }) ∧
    (∀ b, b ≠ 0x00 → b ≠ 0x01 → step (s.hostNext (.writeCmd .cCmd b)) = .refused (.reservedCommand .cCmd b))

/-- R67: HASH samples the message and its length, sets BUSY to 1, clears DONE, ERR and CAUSE, and enters PADGEN, if the unit
is not busy and the length is that of the message; nothing else changes. If it is busy it is refused, and so is every other
byte written to the port. -/
def Obligations.HashIssueLatchesMessage : Prop :=
  ∀ s : State,
    (s.dig.busy = true → exec .hash s = .refused (.issueWhileBusy .dCmd)) ∧
    (s.dig.busy = false → s.ports.dMsgIn.length = s.ports.dLenIn.toNat →
      exec .hash s = .next { s with dig := { s.dig with msg := s.ports.dMsgIn, len := s.ports.dLenIn, busy := true,
                                                        done := false, err := false, cause := 0, phase := .padgen } }) ∧
    (∀ b, b ≠ 0x10 → step (s.hostNext (.writeCmd .dCmd b)) = .refused (.reservedCommand .dCmd b))

/-- R163: the three breaches of the host's contract are refused at the step that makes them, and a read of a result register
that is not valid is not refused: it gives some value, and the block is unchanged. -/
def Obligations.ContractBreachesAreRefused : Prop :=
  ∀ s : State,
    (s.ciph.busy = true → ∀ b, b = 0x00 ∨ b = 0x01 →
      step (s.hostNext (.writeCmd .cCmd b)) = .refused (.issueWhileBusy .cCmd)) ∧
    (s.dig.busy = true → step (s.hostNext (.writeCmd .dCmd 0x10)) = .refused (.issueWhileBusy .dCmd)) ∧
    (∀ b, b ≠ 0x00 → b ≠ 0x01 → step (s.hostNext (.writeCmd .cCmd b)) = .refused (.reservedCommand .cCmd b)) ∧
    (∀ b, b ≠ 0x10 → step (s.hostNext (.writeCmd .dCmd b)) = .refused (.reservedCommand .dCmd b)) ∧
    (s.dig.busy = false → s.ports.dMsgIn.length ≠ s.ports.dLenIn.toNat →
      step (s.hostNext (.writeCmd .dCmd 0x10)) = .refused .lengthMismatch) ∧
    (s.ciph.done = false → ∃ v n, step (s.hostNext .readCBlockOut) =
      .next { s with host := { s.host with received := .cBlockOut v :: s.host.received }, draws := n }) ∧
    (s.dig.done = false ∨ s.dig.err = true → ∃ v n, step (s.hostNext .readDHexOut) =
      .next { s with host := { s.host with received := .dHexOut v :: s.host.received }, draws := n })

/-! ### Micro-operations of CIPH -/

/-- R87: C.LOADST copies the block into ST, and nothing but the sequencer changes besides. -/
def Obligations.LoadstCopiesTheBlock : Prop :=
  ∀ s : State, ∃ t, exec .cLoadst s = .next t ∧ (∀ i : Fin 16, t.ciph.st[i] = s.ciph.blk[i]) ∧
    t = { s with ciph := { s.ciph with st := t.ciph.st, phase := t.ciph.phase } }

/-- R86: C.KEYLOAD copies the key into slice 0 of RK and a tail into the other 160 bytes. The tail is the configured one
where the configuration fixes one; else it is a draw not made before, of which nothing is said (log 3). Nothing but the
sequencer changes besides. -/
def Obligations.KeyloadLoadsKeyAndTail : Prop :=
  ∀ s : State, ∃ (t : State) (tail : Vector Byte 160), exec .cKeyload s = .next t ∧
    (∀ i : Fin 16, t.ciph.rk[i.val] = s.ciph.key[i]) ∧ (∀ j : Fin 160, t.ciph.rk[16 + j.val] = tail[j]) ∧
    (∀ f, s.params.tail = .fixed f → tail = f) ∧
    (s.params.tail = .drawn → tail = Config.drawBytes .rkTail 160 s.draws.inst s.draws.tails) ∧
    t = { s with ciph := { s.ciph with rk := t.ciph.rk, phase := t.ciph.phase, round := t.ciph.round },
                 draws := { s.draws with tails := s.draws.tails + 1 } }

/-- R85: C.ARK XORs ST with slice C_ROUND of RK, and nothing but the sequencer changes besides. Twice with one slice is the
identity, and so is once with a zero slice, which under RK_TAIL_ZERO every slice but slice 0 is. Slice 0 is the key, and
slices 1 to 10 are the tail. -/
def Obligations.ArkXorsTheRoundSlice : Prop :=
  (∀ s : State, ∃ t, exec .cArk s = .next t ∧
    (∀ i : Fin 16, t.ciph.st[i] = s.ciph.st[i] ^^^ s.ciph.rk[16 * s.ciph.round.val + i.val]) ∧
    t = { s with ciph := { s.ciph with st := t.ciph.st, phase := t.ciph.phase, round := t.ciph.round } }) ∧
  (∀ v rk r, addRoundKey (addRoundKey v rk r) rk r = v) ∧
  (∀ v key tail (i : Fin 16), (addRoundKey v (roundKeys key tail) 0)[i] = v[i] ^^^ key[i]) ∧
  (∀ v key tail (r : Fin 10) (i : Fin 16),
    (addRoundKey v (roundKeys key tail) r.succ)[i] = v[i] ^^^ tail[16 * r.val + i.val]) ∧
  (∀ v key (r : Fin 11), 1 ≤ r.val → addRoundKey v (roundKeys key zeroTail) r = v)

/-- R81: C.SUB replaces each byte of ST by the entry of SBOX it indexes, and nothing but the sequencer changes besides. In
the default table 0x00 becomes 0x63 and 0x10 becomes 0xca. -/
def Obligations.SubLooksUpSbox : Prop :=
  (∀ s : State, ∃ t, exec .cSub s = .next t ∧ (∀ i : Fin 16, t.ciph.st[i] = s.params.sbox[s.ciph.st[i].toNat]) ∧
    t = { s with ciph := { s.ciph with st := t.ciph.st, phase := t.ciph.phase } }) ∧
  defaultSbox[0x00] = 0x63 ∧ defaultSbox[0x10] = 0xca

/-- R82: C.ISUB replaces each byte of ST by the entry of INV_SBOX it indexes, and nothing but the sequencer changes besides.
With tables inverse to each other (R152) C.ISUB undoes C.SUB and C.SUB undoes C.ISUB. -/
def Obligations.IsubLooksUpInvSbox : Prop :=
  (∀ s : State, ∃ t, exec .cIsub s = .next t ∧ (∀ i : Fin 16, t.ciph.st[i] = s.params.invSbox[s.ciph.st[i].toNat]) ∧
    t = { s with ciph := { s.ciph with st := t.ciph.st, phase := t.ciph.phase } }) ∧
  (∀ s : State, s.params.wf = true →
    (∃ a b, exec .cSub s = .next a ∧ exec .cIsub a = .next b ∧ b.ciph.st = s.ciph.st) ∧
    (∃ a b, exec .cIsub s = .next a ∧ exec .cSub a = .next b ∧ b.ciph.st = s.ciph.st)) ∧
  defaultInvSbox[0x63] = 0x00 ∧ defaultInvSbox[0x00] = 0x52

/-- R83: C.SHIFT rotates row r of the column-major matrix left by r columns, which is the index table SR, and nothing but
the sequencer changes besides. Row 0 never moves, four applications are the identity, and ten are two. -/
def Obligations.ShiftRotatesRowsLeft : Prop :=
  (∀ s : State, ∃ t, exec .cShift s = .next t ∧
    (∀ r c : Fin 4, t.ciph.st[r.val + 4 * c.val] = s.ciph.st[r.val + 4 * ((c.val + r.val) % 4)]) ∧
    (∀ i : Fin 16, t.ciph.st[i] = s.ciph.st[tableSr[i]]) ∧
    (∀ c : Fin 4, t.ciph.st[4 * c.val] = s.ciph.st[4 * c.val]) ∧
    t = { s with ciph := { s.ciph with st := t.ciph.st, phase := t.ciph.phase } }) ∧
  (∀ v, shiftRows (shiftRows (shiftRows (shiftRows v))) = v) ∧
  (∀ v, shiftRows^[10] v = shiftRows (shiftRows v))

/-- R84: C.ISHIFT rotates row r right by r columns, which is the index table ISR, and nothing but the sequencer changes
besides. It undoes C.SHIFT, and C.SHIFT undoes it, since ISR is the inverse permutation of SR. -/
def Obligations.IshiftRotatesRowsRight : Prop :=
  (∀ s : State, ∃ t, exec .cIshift s = .next t ∧
    (∀ r c : Fin 4, t.ciph.st[r.val + 4 * ((c.val + r.val) % 4)] = s.ciph.st[r.val + 4 * c.val]) ∧
    (∀ i : Fin 16, t.ciph.st[i] = s.ciph.st[tableIsr[i]]) ∧
    t = { s with ciph := { s.ciph with st := t.ciph.st, phase := t.ciph.phase } }) ∧
  (∀ s : State,
    (∃ a b, exec .cShift s = .next a ∧ exec .cIshift a = .next b ∧ b.ciph.st = s.ciph.st) ∧
    (∃ a b, exec .cIshift s = .next a ∧ exec .cShift a = .next b ∧ b.ciph.st = s.ciph.st)) ∧
  (∀ i : Fin 16, tableSr[tableIsr[i]] = i ∧ tableIsr[tableSr[i]] = i)

/-- R88: C.OUT copies ST to C_OUT, clears BUSY, sets DONE and goes to IDLE, and nothing else changes. -/
def Obligations.OutPublishesTheState : Prop :=
  ∀ s : State, ∃ t, exec .cOut s = .next t ∧ (∀ i : Fin 16, t.ciph.out[i] = s.ciph.st[i]) ∧
    t = { s with ciph := { s.ciph with out := t.ciph.out, busy := false, done := true, phase := .idle } }

/-- R24, R25: every row of the CIPH transition table, and no step in IDLE. -/
def Obligations.CiphSequencerFollowsItsTable : Prop :=
  ∀ (s : State) (r : Nat), s.ciph.round.val = r →
    (s.ciph.phase = .idle → ciphTurn s = .next s) ∧
    (s.ciph.phase = .loadst → ciphRow s .cLoadst .keyload r) ∧
    (s.ciph.phase = .keyload → s.ciph.dir = false → ciphRow s .cKeyload .whiten 0) ∧
    (s.ciph.phase = .keyload → s.ciph.dir = true → ciphRow s .cKeyload .whiten 10) ∧
    (s.ciph.phase = .whiten → s.ciph.dir = false → ciphRow s .cArk .sub 1) ∧
    (s.ciph.phase = .whiten → s.ciph.dir = true → ciphRow s .cArk .ishift 9) ∧
    (s.ciph.phase = .sub → ciphRow s .cSub .shift r) ∧
    (s.ciph.phase = .shift → ciphRow s .cShift .ark r) ∧
    (s.ciph.phase = .ishift → ciphRow s .cIshift .isub r) ∧
    (s.ciph.phase = .isub → ciphRow s .cIsub .ark r) ∧
    (s.ciph.phase = .ark → s.ciph.dir = false → r < 10 → ciphRow s .cArk .sub (r + 1)) ∧
    (s.ciph.phase = .ark → s.ciph.dir = false → r = 10 → ciphRow s .cArk .out 10) ∧
    (s.ciph.phase = .ark → s.ciph.dir = true → 0 < r → ciphRow s .cArk .ishift (r - 1)) ∧
    (s.ciph.phase = .ark → s.ciph.dir = true → r = 0 → ciphRow s .cArk .out 0) ∧
    (s.ciph.phase = .out → ciphRow s .cOut .idle r)

/-! ### Micro-operations of DIG -/

/-- R112: PLEN is the smallest multiple of 64 that is at least LEN + 9, it leaves (55 - LEN) mod 64 zero bytes, and it is
the two-case formula; with the seven values the rule lists. -/
def Obligations.PaddedLengthIsSmallest : Prop :=
  (∀ n : Nat, paddedLength n % 64 = 0 ∧ n + 9 ≤ paddedLength n ∧
    (∀ m, m % 64 = 0 → n + 9 ≤ m → paddedLength n ≤ m) ∧
    (paddedLength n : Int) = n + 1 + (55 - (n : Int)) % 64 + 8 ∧
    paddedLength n = (if n % 64 ≤ 55 then 64 * (n / 64) + 64 else 64 * (n / 64) + 128) ∧
    1 ≤ blockCount (paddedLength n)) ∧
  [0, 55, 56, 63, 64, 119, 120].map paddedLength = [64, 64, 128, 128, 128, 128, 192]

/-- R111, R113: where the padded message fits, D.PADGEN writes BITLEN = 8 LEN mod 2^64, PLEN, and in PADBUF the message, one
0x80 byte, zero bytes and the little-endian length field; nothing but the sequencer changes besides. The premise that MSG has
LEN bytes is R17, which the invariant keeps (EveryStepKeepsTheInvariant). Where it does not fit, none of the three is written. -/
def Obligations.PadgenWritesThePaddedMessage : Prop :=
  (∀ s : State, tooLong s.params s.dig.len → ∃ t, exec .dPadgen s = .next t ∧
    t.dig.bitlen = s.dig.bitlen ∧ t.dig.plen = s.dig.plen ∧ t.dig.padbuf = s.dig.padbuf) ∧
  (∀ s : State, s.dig.msg.length = s.dig.len.toNat → ¬ tooLong s.params s.dig.len →
    ∃ t, exec .dPadgen s = .next t ∧
      t.dig.bitlen.toNat = s.dig.len.toNat * 8 % 2 ^ 64 ∧
      t.dig.plen = 64 * ((s.dig.len.toNat + 8) / 64 + 1) ∧
      t.dig.padbuf.length = t.dig.plen ∧
      (∀ j, j < s.dig.len.toNat → t.dig.padbuf[j]? = s.dig.msg[j]?) ∧
      t.dig.padbuf[s.dig.len.toNat]? = some 0x80 ∧
      (∀ j, s.dig.len.toNat < j → j + 9 ≤ t.dig.plen → t.dig.padbuf[j]? = some 0x00) ∧
      (∀ k, k < 8 → t.dig.padbuf[t.dig.plen - 8 + k]? = some (BitVec.ofNat 8 (t.dig.bitlen.toNat / 256 ^ k))) ∧
      t = { s with dig := { s.dig with bitlen := t.dig.bitlen, plen := t.dig.plen, padbuf := t.dig.padbuf,
                                       phase := t.dig.phase } })

/-- R160, R166: AllocationFailure is raised at D.PADGEN exactly when PLEN > PAD_CAP. It writes D_ERR, D_CAUSE, D_DONE, D_BUSY
and D_PHASE and nothing else. No other operation sets D_ERR, and with an unbounded buffer it is never raised. -/
def Obligations.PadgenRaisesAllocationFailure : Prop :=
  (∀ s : State, tooLong s.params s.dig.len → exec .dPadgen s =
    .next { s with dig := { s.dig with err := true, cause := 1, done := true, busy := false, phase := .idle } }) ∧
  (∀ s : State, ¬ tooLong s.params s.dig.len → ∃ t, exec .dPadgen s = .next t ∧ t.dig.err = s.dig.err ∧
    t.dig.cause = s.dig.cause) ∧
  (∀ s : State, s.params.padCap = .unbounded → ¬ tooLong s.params s.dig.len) ∧
  (∀ (s t : State) (i : Instr), i ≠ .dPadgen → exec i s = .next t → t.dig.err = true → s.dig.err = true)

/-- R114: D.INIT loads the four IV constants, and nothing but the sequencer changes besides. It runs once per command, before
the first block: its phase is entered from PADGEN only, no DIG turn leads to PADGEN, and D.INIT leaves for LOADX. -/
def Obligations.InitLoadsTheIv : Prop :=
  (∀ s t : State, digTurn s = .next t → t.dig.phase ≠ .padgen ∧ (t.dig.phase = .init → s.dig.phase = .padgen)) ∧
  (∀ s : State, ∃ t, exec .dInit s = .next t ∧ t.dig.phase = .loadx ∧
    t = { s with dig := { s.dig with acc := { a := 0x67452301, b := 0xefcdab89, c := 0x98badcfe, d := 0x10325476 },
                                     blk := t.dig.blk, phase := t.dig.phase } })

/-- R43, R115: D.LOADX assembles the sixteen words of block D_BLK little-endian from PADBUF and copies the accumulators to
the working registers; nothing but the sequencer changes besides. -/
def Obligations.LoadxAssemblesTheBlock : Prop :=
  ∀ s : State, ∃ t, exec .dLoadx s = .next t ∧ t.dig.work = s.dig.acc ∧
    (∀ (j : Fin 16) (b0 b1 b2 b3 : Byte),
      s.dig.padbuf[64 * s.dig.blk + 4 * j.val]? = some b0 → s.dig.padbuf[64 * s.dig.blk + 4 * j.val + 1]? = some b1 →
      s.dig.padbuf[64 * s.dig.blk + 4 * j.val + 2]? = some b2 → s.dig.padbuf[64 * s.dig.blk + 4 * j.val + 3]? = some b3 →
      t.dig.x[j].toNat = b0.toNat + 256 * b1.toNat + 65536 * b2.toNat + 16777216 * b3.toNat) ∧
    t = { s with dig := { s.dig with x := t.dig.x, work := t.dig.work, i := t.dig.i, phase := t.dig.phase } }

/-- R116, R121, R129: D.STEP on all its 64 sub-rounds, in numbers: the sum of wa, the stage function of the old wb, wc, wd,
K[i] and X[g] modulo 2^32, rotated left by S[i] and added to wb; the other three registers shift round. Nothing but the
sequencer changes besides. -/
def Obligations.StepDoesOneSubRound : Prop :=
  ∀ s : State, ∃ (t : State) (x : Word) (sum : Nat), exec .dStep s = .next t ∧
    (∀ g : Fin 16, g.val = stageWord s.dig.i.val → x = s.dig.x[g]) ∧
    sum = (s.dig.work.a.toNat + (stageValue s.dig.i.val s.dig.work.b s.dig.work.c s.dig.work.d).toNat +
      tableK[s.dig.i].toNat + x.toNat) % 2 ^ 32 ∧
    t.dig.work.b.toNat = (s.dig.work.b.toNat +
      ((sum * 2 ^ rotAmount s.dig.i) % 2 ^ 32 + sum / 2 ^ (32 - rotAmount s.dig.i))) % 2 ^ 32 ∧
    t.dig.work.a = s.dig.work.d ∧ t.dig.work.c = s.dig.work.b ∧ t.dig.work.d = s.dig.work.c ∧
    t = { s with dig := { s.dig with work := t.dig.work, i := t.dig.i, phase := t.dig.phase } }

/-- R117, R118, R119, R120: the four stage functions, bit by bit. -/
def Obligations.StageFunctionsBitByBit : Prop :=
  ∀ (b c d : Word) (k : Nat), k < 32 →
    (stageF b c d).getLsbD k = (if b.getLsbD k then c.getLsbD k else d.getLsbD k) ∧
    (stageG b c d).getLsbD k = (if d.getLsbD k then b.getLsbD k else c.getLsbD k) ∧
    (stageH b c d).getLsbD k = ((b.getLsbD k ^^ c.getLsbD k) ^^ d.getLsbD k) ∧
    (stageI b c d).getLsbD k = (c.getLsbD k ^^ (b.getLsbD k || !d.getLsbD k))

/-- R121: the rotation, bit by bit and as a number, and the range of the amounts used. -/
def Obligations.RotationBitByBit : Prop :=
  (∀ i : Fin 64, 4 ≤ rotAmount i ∧ rotAmount i ≤ 23) ∧
  (∀ (x : Word) (n : Nat), 1 ≤ n → n ≤ 31 →
    (∀ k, k < 32 → (rotl32 x n).getLsbD k = x.getLsbD ((k + 32 - n) % 32)) ∧
    (rotl32 x n).toNat = (x.toNat * 2 ^ n) % 2 ^ 32 + x.toNat / 2 ^ (32 - n))

/-- R122: D.ADDBACK adds the working registers to the accumulators modulo 2^32, and nothing but the sequencer changes
besides. -/
def Obligations.AddbackAddsModulo : Prop :=
  ∀ s : State, ∃ t, exec .dAddback s = .next t ∧
    t.dig.acc.a.toNat = (s.dig.acc.a.toNat + s.dig.work.a.toNat) % 2 ^ 32 ∧
    t.dig.acc.b.toNat = (s.dig.acc.b.toNat + s.dig.work.b.toNat) % 2 ^ 32 ∧
    t.dig.acc.c.toNat = (s.dig.acc.c.toNat + s.dig.work.c.toNat) % 2 ^ 32 ∧
    t.dig.acc.d.toNat = (s.dig.acc.d.toNat + s.dig.work.d.toNat) % 2 ^ 32 ∧
    t = { s with dig := { s.dig with acc := t.dig.acc, blk := t.dig.blk, phase := t.dig.phase } }

/-- R44, R123: D.RENDER writes HEX, for each word in state order and each of its bytes, least significant first, the two
digits with the high nibble first; it clears BUSY, sets DONE and goes to IDLE, and nothing else changes. -/
def Obligations.RenderWritesLowercaseHex : Prop :=
  ∀ s : State, ∃ t, exec .dRender s = .next t ∧
    (∀ (w k : Fin 4) (v : Nat),
      v = ((#v[s.dig.acc.a, s.dig.acc.b, s.dig.acc.c, s.dig.acc.d] : Vector Word 4)[w].toNat / 256 ^ k.val) % 256 →
      t.dig.hex[8 * w.val + 2 * k.val].toNat = digitCode (v / 16) ∧
      t.dig.hex[8 * w.val + 2 * k.val + 1].toNat = digitCode (v % 16)) ∧
    t = { s with dig := { s.dig with hex := t.dig.hex, busy := false, done := true, phase := .idle } }

/-- R31, R32: every row of the DIG transition table, the failing row included, and no step in IDLE. The premise of the last
two rows of ADDBACK is R31's bound on D_BLK, which the invariant keeps (EveryStepKeepsTheInvariant). -/
def Obligations.DigSequencerFollowsItsTable : Prop :=
  ∀ (s : State) (n j : Nat), s.dig.blk = n → s.dig.i.val = j →
    (s.dig.phase = .idle → digTurn s = .next s) ∧
    (s.dig.phase = .padgen → ¬ tooLong s.params s.dig.len → digRow s .dPadgen .init n j) ∧
    (s.dig.phase = .padgen → tooLong s.params s.dig.len → digTurn s =
      .next { s with dig := { s.dig with phase := .idle, busy := false, done := true, err := true, cause := 1 } }) ∧
    (s.dig.phase = .init → digRow s .dInit .loadx 0 j) ∧
    (s.dig.phase = .loadx → digRow s .dLoadx .step n 0) ∧
    (s.dig.phase = .step → j < 63 → digRow s .dStep .step n (j + 1)) ∧
    (s.dig.phase = .step → j = 63 → digRow s .dStep .addback n 63) ∧
    (s.dig.phase = .addback → n + 1 < blockCount s.dig.plen → digRow s .dAddback .loadx (n + 1) j) ∧
    (s.dig.phase = .addback → n + 1 = blockCount s.dig.plen → digRow s .dAddback .render n j) ∧
    (s.dig.phase = .render → digRow s .dRender .idle n j)

/-! ### Reset and reads -/

/-- R36, R12, R181: what the spec gives the machine right after reset: both units idle, their flags and D_CAUSE clear, the
tables at their contents. (What the other registers hold there is the model's choice, log 1, and nothing is said of it.) -/
def Obligations.ResetLeavesBothUnitsIdle : Prop :=
  State.reset.ciph.phase = .idle ∧ State.reset.ciph.status = 0b00 ∧
  State.reset.dig.phase = .idle ∧ State.reset.dig.status = 0b00000 ∧
  State.reset.params.sbox = defaultSbox ∧ State.reset.params.invSbox = defaultInvSbox

/-- R180, R36: the RESET event, from any state: both units idle with clear flags, the tables unchanged, and the command that
was in progress sets no DONE flag, so that the state is final and meets the invariant. The model's choice and no rule's: that
the event is an item of the host's queue taken in a turn of the host (log 17), that it touches neither the ports, nor the host,
nor the schedule (log 1), and that it leaves PAD_CAP and the tail's mode as they are (log 4). That each data register takes a
draw is log 1 and is not said here. -/
def Obligations.ResetEventIdlesBothUnits : Prop :=
  ∀ s : State, ∃ t, step (s.hostNext .reset) = .next t ∧
    t.ciph.phase = .idle ∧ t.ciph.status = 0b00 ∧ t.dig.phase = .idle ∧ t.dig.status = 0b00000 ∧
    t = { s with ciph := t.ciph, dig := t.dig, draws := t.draws } ∧ t.final ∧ t.Inv

/-- R34, R50, R26, R33: a read of a status register gives the flags in their places; a read of a result register while it is
valid gives its bytes in their lanes. The host's list of received values is all that changes. -/
def Obligations.ReadsGiveFlagsAndResults : Prop :=
  ∀ s : State,
    (∃ v, step (s.hostNext .readCStatus) =
        .next { s with host := { s.host with received := .cStatus v :: s.host.received } } ∧
      v.getLsbD 0 = s.ciph.busy ∧ v.getLsbD 1 = s.ciph.done) ∧
    (∃ v, step (s.hostNext .readDStatus) =
        .next { s with host := { s.host with received := .dStatus v :: s.host.received } } ∧
      v.getLsbD 0 = s.dig.busy ∧ v.getLsbD 1 = s.dig.done ∧ v.getLsbD 2 = s.dig.err ∧ v.extractLsb' 3 2 = s.dig.cause) ∧
    (s.ciph.done = true → ∃ v, step (s.hostNext .readCBlockOut) =
        .next { s with host := { s.host with received := .cBlockOut v :: s.host.received } } ∧
      ∀ i : Fin 16, v.extractLsb' (8 * i.val) 8 = s.ciph.out[i]) ∧
    (s.dig.done = true → s.dig.err = false → ∃ v, step (s.hostNext .readDHexOut) =
        .next { s with host := { s.host with received := .dHexOut v :: s.host.received } } ∧
      ∀ j : Fin 32, v.extractLsb' (8 * j.val) 8 = s.dig.hex[j])

/-- R35, D20: a read tells the host nothing but the flags and a valid result. Two states that agree on these, on the host and
on the draws give every read the same answer, whatever RK, ST, the latches and the digest's registers hold. -/
def Obligations.ReadsRevealNothingInternal : Prop :=
  ∀ (s u : State) (a : HostAction), a ∈ [HostAction.readCStatus, .readDStatus, .readCBlockOut, .readDHexOut] →
    s.host = u.host → s.draws = u.draws → s.ciph.status = u.ciph.status → s.dig.status = u.dig.status →
    (s.ciph.done = true → s.ciph.out = u.ciph.out) → (s.dig.done = true → s.dig.err = false → s.dig.hex = u.dig.hex) →
    ∃ t v, step (s.hostNext a) = .next t ∧ step (u.hostNext a) = .next v ∧ t.host = v.host ∧ t.draws = v.draws

/-- R185: driving the input ports changes the ports and nothing else, so the operands of a command in progress are not
disturbed. (That ports hold what was last driven on them is log 2.) -/
def Obligations.DrivingPortsDisturbsNothing : Prop :=
  ∀ (s : State) (block key : BitVec 128) (msg : List Byte) (len : BitVec 64),
    step (s.hostNext (.driveCiph block key)) = .next { s with ports := { s.ports with cBlockIn := block, cKeyIn := key } } ∧
    step (s.hostNext (.driveDig msg len)) = .next { s with ports := { s.ports with dMsgIn := msg, dLenIn := len } }

/-! ### Tables -/

/-- R152: the default substitution tables are inverse to each other, in both directions. -/
def Obligations.DefaultTablesAreInverse : Prop :=
  (∀ x : Byte, defaultInvSbox[defaultSbox[x.toNat].toNat] = x) ∧ (∀ x : Byte, defaultSbox[defaultInvSbox[x.toNat].toNat] = x)

/-- R12, R156: no step of any agent writes a table. That no step writes the other two parameters either, PAD_CAP (R6, R160)
and the mode of the tail (R6), is the model's choice (log 4): D11 allows a PAD_CAP drawn anew by each command, and the model
does not take it. -/
def Obligations.NoStepWritesATable : Prop :=
  ∀ s t : State, step s = .next t → t.params = s.params

/-! ### The whole machine -/

/-- R10, R52: a turn of CIPH leaves DIG alone and a turn of DIG leaves CIPH alone, both always answer a next state, and the
two turns may be made in either order with the same result. -/
def Obligations.UnitsShareNothing : Prop :=
  ∀ s : State, ∃ a b c, ciphTurn s = .next a ∧ digTurn a = .next c ∧ digTurn s = .next b ∧ ciphTurn b = .next c ∧
    a = { s with ciph := a.ciph, draws := { s.draws with tails := a.draws.tails } } ∧ b = { s with dig := b.dig }

/-- R162, R163, R41: a step never faults, and it is refused only when the host, having the turn, writes a command port with a
byte that is no command of that port, or to a busy unit, or with a wrong length. -/
def Obligations.OnlyContractBreachesStop : Prop :=
  ∀ s : State, (∀ f, step s ≠ .fault f) ∧
    (∀ r, step s = .refused r → s.mover = .host ∧ ∃ p b rest, s.host.queue = .writeCmd p b :: rest ∧
      ((r = .reservedCommand p b ∧ ∀ i, decodeOn p b ≠ .ok i) ∨
       (r = .issueWhileBusy .cCmd ∧ p = .cCmd ∧ s.ciph.busy = true) ∨
       (r = .issueWhileBusy .dCmd ∧ p = .dCmd ∧ s.dig.busy = true) ∨
       (r = .lengthMismatch ∧ p = .dCmd ∧ s.ports.dMsgIn.length ≠ s.ports.dLenIn.toNat)))

/-- R15, R17, R35: the operand latches are written by the issue step of their unit, and by RESET, and by nothing else.
That RESET is an item of the host's queue is the model's choice (log 17). -/
def Obligations.OnlyIssueStepsWriteLatches : Prop :=
  ∀ s t : State, step s = .next t → (∀ rest, s.host.queue ≠ .reset :: rest) →
    ((t.ciph.blk = s.ciph.blk ∧ t.ciph.key = s.ciph.key ∧ t.ciph.dir = s.ciph.dir) ∨
      (∃ b rest, s.host.queue = .writeCmd .cCmd b :: rest ∧ t.ciph.phase = .loadst ∧ s.ciph.busy = false)) ∧
    ((t.dig.msg = s.dig.msg ∧ t.dig.len = s.dig.len) ∨
      (∃ b rest, s.host.queue = .writeCmd .dCmd b :: rest ∧ t.dig.phase = .padgen ∧ s.dig.busy = false))

/-- R53, R186: a valid result stays valid and unchanged through every step but an issue step to its unit and RESET. The
invariant rules out the states in which a unit is done and not idle. That RESET is an item of the host's queue is the model's
choice (log 17). -/
def Obligations.ResultStaysUntilNextIssue : Prop :=
  ∀ s t : State, s.Inv → step s = .next t → (∀ rest, s.host.queue ≠ .reset :: rest) →
    (s.ciph.done = true → (∀ b rest, s.host.queue ≠ .writeCmd .cCmd b :: rest) →
      t.ciph.done = true ∧ t.ciph.out = s.ciph.out) ∧
    (s.dig.done = true → (∀ b rest, s.host.queue ≠ .writeCmd .dCmd b :: rest) →
      t.dig.done = true ∧ t.dig.err = s.dig.err ∧ t.dig.hex = s.dig.hex)

/-- R19, R47, R41: while DIG reads PADBUF the buffer is PLEN bytes of whole blocks that end in the length field, and the 64
bytes that D.LOADX reads lie inside it, so no read of it is out of range. -/
def Obligations.BufferReadsStayInside : Prop :=
  ∀ s : State, s.dig.Inv s.params →
    (s.dig.phase = .init ∨ s.dig.phase = .loadx ∨ s.dig.phase = .step ∨ s.dig.phase = .addback ∨ s.dig.phase = .render →
      s.dig.bufferOk) ∧
    (s.dig.phase = .loadx → ∀ j k, j < 16 → k < 4 → 64 * s.dig.blk + 4 * j + k < s.dig.padbuf.length)

/-- R34: a valid HEX is 32 codes of lowercase hexadecimal digits. -/
def Obligations.ValidHexIsLowercaseDigits : Prop :=
  ∀ s : State, s.Inv → s.dig.done = true → s.dig.err = false → ∀ j : Fin 32, isDigitCode s.dig.hex[j]

/-- The invariant holds right after reset. -/
def Obligations.ResetMeetsTheInvariant : Prop :=
  State.reset.Inv

/-- R26, R33, R34, R178: every step of every agent keeps the invariant of a safe run: the phases, counters and flags are in a
legal combination, each unit's registers hold what its command has computed so far, and a result that is valid is the big-step
result of the command whose operands are in the latches. -/
def Obligations.EveryStepKeepsTheInvariant : Prop :=
  ∀ s t : State, s.Inv → step s = .next t → t.Inv

/-- R178: what a final state of a safe run says: a done CIPH holds in C_OUT the value of R89 or R90 for the operands latched
and for the tail that stands beside the key in RK, where C.KEYLOAD drew it; a done DIG either holds in HEX the value of R110 for the message latched, or
reports AllocationFailure for a message that does not fit. -/
def Obligations.FinalStateHoldsTheResults : Prop :=
  ∀ s : State, s.Inv → s.final →
    (s.ciph.done = true → ∃ tail : Vector Byte 160, s.ciph.rk = roundKeys s.ciph.key tail ∧ s.ciph.out =
      (if s.ciph.dir then decBlock s.params (roundKeys s.ciph.key tail) s.ciph.blk
       else encBlock s.params (roundKeys s.ciph.key tail) s.ciph.blk)) ∧
    (s.dig.done = true →
      (s.dig.err = false ∧ s.dig.cause = 0 ∧ ¬ tooLong s.params s.dig.len ∧ s.dig.hex = digestHex s.dig.msg s.dig.len) ∨
      (s.dig.err = true ∧ s.dig.cause = 1 ∧ tooLong s.params s.dig.len))

/-! ### Whole commands -/

/-- R91, R92: the micro-operations that ENC and DEC run, as the stream of their identifiers, and no more than these. -/
def Obligations.CipherCommandsRunTheirSequence : Prop :=
  ∀ s : State, s.ciph.busy = false →
    (∃ a, exec .enc s = .next a ∧ ciphTrace 35 a =
      [0x80, 0x81, 0x82] ++ (List.replicate 10 [(0x83 : Byte), 0x84, 0x82]).flatten ++ [0x87]) ∧
    (∃ a, exec .dec s = .next a ∧ ciphTrace 35 a =
      [0x80, 0x81, 0x82] ++ (List.replicate 10 [(0x86 : Byte), 0x85, 0x82]).flatten ++ [0x87])

/-- R124: the micro-operations that a HASH runs whose padded message fits, as the stream of their identifiers, 3 + 66 NBLK of
them and no more. -/
def Obligations.HashRunsItsSequence : Prop :=
  ∀ (s : State) (n : Nat), s.dig.busy = false → s.ports.dMsgIn.length = s.ports.dLenIn.toNat →
    ¬ tooLong s.params s.ports.dLenIn → n = (s.ports.dLenIn.toNat + 8) / 64 + 1 →
    ∃ a, exec .hash s = .next a ∧ digTrace (3 + 66 * n + 1) a =
      [0x90, 0x91] ++ (List.replicate n ([(0x92 : Byte)] ++ List.replicate 64 0x93 ++ [0x94])).flatten ++ [0x95]

/-- R25, R89, R90, R96: an ENC or DEC that is issued to an idle unit completes with its big-step result after exactly 34
turns of CIPH, with any turns of DIG between them, for every block, key and tail, with DONE set by the last turn and not
before. -/
def Obligations.CipherCommandComputesItsResult : Prop :=
  ∀ (s : State) (i : Instr) (dir : Bool) (l : List Agent), cipherCommand i dir → s.ciph.busy = false →
    (∀ a ∈ l, a ≠ .host) → l.count .ciph = 34 → l.getLast? = some .ciph →
    (∃ t, Host.Core.run Sys2Proof.core (l.length + 1)
        ({ s with schedule := l }.hostNext (.writeCmd .cCmd (encode i))) = .next t ∧
      t.ciph.done = true ∧ t.ciph.busy = false ∧ t.ciph.phase = .idle ∧
      t.ciph.out = (if dir then decBlock else encBlock) s.params
        (roundKeys (portLanes s.ports.cKeyIn) (tailOf s.params.tail s.draws)) (portLanes s.ports.cBlockIn)) ∧
    (∃ t, Host.Core.run Sys2Proof.core l.length
        ({ s with schedule := l }.hostNext (.writeCmd .cCmd (encode i))) = .next t ∧
      t.ciph.done = false ∧ t.ciph.busy = true)

/-- R32, R110, R124: a HASH that is issued to an idle unit, of a message that fits, completes with its big-step result after
exactly 3 + 66 NBLK turns of DIG, with any turns of CIPH between them. -/
def Obligations.HashComputesItsResult : Prop :=
  ∀ (s : State) (l : List Agent), s.dig.busy = false → s.ports.dMsgIn.length = s.ports.dLenIn.toNat →
    ¬ tooLong s.params s.ports.dLenIn → (∀ a ∈ l, a ≠ .host) →
    l.count .dig = 3 + 66 * ((s.ports.dLenIn.toNat + 8) / 64 + 1) →
    ∃ t, Host.Core.run Sys2Proof.core (l.length + 1)
        ({ s with schedule := l }.hostNext (.writeCmd .dCmd 0x10)) = .next t ∧
      t.dig.done = true ∧ t.dig.busy = false ∧ t.dig.err = false ∧ t.dig.cause = 0 ∧ t.dig.phase = .idle ∧
      t.dig.hex = digestHex s.ports.dMsgIn s.ports.dLenIn

/-- R160, R165, R166, R167: a HASH of a message that does not fit ends after exactly one turn of DIG with the error flags set
and CIPH untouched, and the next HASH leaves the error: its issue step clears D_ERR, D_CAUSE and D_DONE. -/
def Obligations.FailedHashEndsAndRecovers : Prop :=
  ∀ (s : State) (l : List Agent), s.dig.busy = false → s.ports.dMsgIn.length = s.ports.dLenIn.toNat →
    tooLong s.params s.ports.dLenIn →
    ∃ t u, Host.Core.run Sys2Proof.core 2 ({ s with schedule := .dig :: l }.hostNext (.writeCmd .dCmd 0x10)) = .next t ∧
      t = { s with schedule := l, dig := { s.dig with msg := s.ports.dMsgIn, len := s.ports.dLenIn, busy := false,
                                                      done := true, err := true, cause := 1, phase := .idle } } ∧
      exec .hash t = .next u ∧ u.dig.err = false ∧ u.dig.cause = 0 ∧ u.dig.done = false ∧ u.dig.busy = true

/-- R52: the order in which the two units take their turns does not matter. Two schedules of CIPH and DIG turns that differ
in order only end in the same state, in which each unit is as it would be had it taken its turns alone. -/
def Obligations.InterleavingDoesNotMatter : Prop :=
  ∀ (s : State) (l m : List Agent), l.Perm m → (∀ a ∈ l, a ≠ .host) →
    ∃ t u v, Host.Core.run Sys2Proof.core l.length { s with schedule := l } = .next t ∧
      Host.Core.run Sys2Proof.core m.length { s with schedule := m } = .next t ∧
      Host.Core.run Sys2Proof.core (l.count .ciph) { s with schedule := List.replicate (l.count .ciph) .ciph } = .next u ∧
      Host.Core.run Sys2Proof.core (l.count .dig) { s with schedule := List.replicate (l.count .dig) .dig } = .next v ∧
      t.ciph = u.ciph ∧ t.dig = v.dig

/-- R188: in every weakly fair run every issued command reaches DONE. From any safe state of the run in which a unit is busy,
the unit stays busy up to some step, and that step sets its DONE flag and clears BUSY, with the operands of that same command
still latched, unless that step is RESET, which abandons the command (R180). The model's choice: that a turn of the
host takes RESET (log 17), and that the schedule, or a draw, names the mover (log 5). -/
def Obligations.IssuedCommandsReachDone : Prop :=
  ∀ (f : Nat → State) (n : Nat), FairRun f → (f n).Inv →
    ((f n).ciph.busy = true → ∃ m, n ≤ m ∧ (∀ k, n ≤ k → k ≤ m → (f k).ciph.busy = true) ∧
      ((f m).takesReset ∨ ((f (m + 1)).ciph.done = true ∧ (f (m + 1)).ciph.busy = false ∧
        (f (m + 1)).ciph.blk = (f n).ciph.blk ∧ (f (m + 1)).ciph.key = (f n).ciph.key ∧
        (f (m + 1)).ciph.dir = (f n).ciph.dir))) ∧
    ((f n).dig.busy = true → ∃ m, n ≤ m ∧ (∀ k, n ≤ k → k ≤ m → (f k).dig.busy = true) ∧
      ((f m).takesReset ∨ ((f (m + 1)).dig.done = true ∧ (f (m + 1)).dig.busy = false ∧
        (f (m + 1)).dig.msg = (f n).dig.msg ∧ (f (m + 1)).dig.len = (f n).dig.len)))

/-- R28, R182: nothing a unit holds when a command is issued enters the command's result. Two idle units with equal ports,
parameters and tail draw, whatever else they hold, give equal results and equal flags. -/
def Obligations.StaleRegistersDoNotMatter : Prop :=
  ∀ (s u : State) (i : Instr) (a : Agent) (n : Nat),
    (a = .ciph ∧ (i = .enc ∨ i = .dec) ∧ n = 34) ∨
      (a = .dig ∧ i = .hash ∧ s.ports.dMsgIn.length = s.ports.dLenIn.toNat ∧ ¬ tooLong s.params s.ports.dLenIn ∧
        n = 3 + 66 * ((s.ports.dLenIn.toNat + 8) / 64 + 1)) →
    s.ciph.busy = false → u.ciph.busy = false → s.dig.busy = false → u.dig.busy = false →
    s.ports = u.ports → s.params = u.params → s.draws = u.draws →
    ∃ t v, Host.Core.run Sys2Proof.core (n + 1)
        ({ s with schedule := List.replicate n a }.hostNext (.writeCmd (if a = Agent.ciph then .cCmd else .dCmd) (encode i))) =
          .next t ∧
      Host.Core.run Sys2Proof.core (n + 1)
        ({ u with schedule := List.replicate n a }.hostNext (.writeCmd (if a = Agent.ciph then .cCmd else .dCmd) (encode i))) =
          .next v ∧
      (a = .ciph → t.ciph.out = v.ciph.out ∧ t.ciph.status = v.ciph.status) ∧
      (a = .dig → t.dig.hex = v.dig.hex ∧ t.dig.status = v.dig.status)

/-- R110, R128: the two known vectors. -/
def Obligations.KnownDigests : Prop :=
  (digestHex [] 0).toList = [0x64, 0x34, 0x31, 0x64, 0x38, 0x63, 0x64, 0x39, 0x38, 0x66, 0x30, 0x30, 0x62, 0x32, 0x30, 0x34,
    0x65, 0x39, 0x38, 0x30, 0x30, 0x39, 0x39, 0x38, 0x65, 0x63, 0x66, 0x38, 0x34, 0x32, 0x37, 0x65] ∧
  (digestHex [0x61, 0x62, 0x63] 3).toList = [0x39, 0x30, 0x30, 0x31, 0x35, 0x30, 0x39, 0x38, 0x33, 0x63, 0x64, 0x32, 0x34,
    0x66, 0x62, 0x30, 0x64, 0x36, 0x39, 0x36, 0x33, 0x66, 0x37, 0x64, 0x32, 0x38, 0x65, 0x31, 0x37, 0x66, 0x37, 0x32]

/-! ### The cipher as a function -/

/-- R94: with one tail for both commands DEC undoes ENC and ENC undoes DEC, for every pair of inverse tables, key, tail and
block; with two tails the round trip fails for some key, tails and block. -/
def Obligations.RoundTripNeedsOneTail : Prop :=
  (∀ (p : Params) (rk : Vector Byte 176) (v : Vector Byte 16), p.wf = true →
    decBlock p rk (encBlock p rk v) = v ∧ encBlock p rk (decBlock p rk v) = v) ∧
  (∃ (key v : Vector Byte 16) (t1 t2 : Vector Byte 160),
    decBlock defaultParams (roundKeys key t2) (encBlock defaultParams (roundKeys key t1) v) ≠ v)

/-- R95: byte i of ENC depends on one block byte, block[SR10[i]], on one key byte, key[SR10[i]], and on one byte of each of
the ten tail slices. Under RK_TAIL_ZERO it is SBOX applied ten times to the XOR of those two bytes. -/
def Obligations.EncLanesAreIndependent : Prop :=
  (∀ i : Fin 16, shiftIndex^[10] i = tableSr10[i]) ∧
  (∀ (p : Params) (rk rk' : Vector Byte 176) (v v' : Vector Byte 16) (i : Fin 16), v[tableSr10[i]] = v'[tableSr10[i]] →
    (∀ r : Fin 11, sliceByte rk r (shiftIndex^[10 - r.val] i) = sliceByte rk' r (shiftIndex^[10 - r.val] i)) →
    (encBlock p rk v)[i] = (encBlock p rk' v')[i]) ∧
  (∀ (p : Params) (key v : Vector Byte 16) (i : Fin 16),
    (encBlock p (roundKeys key zeroTail) v)[i] = (lookup p.sbox)^[10] (v[tableSr10[i]] ^^^ key[tableSr10[i]]))

/-! ### Several instances -/

/-- R176, R6: there is at least one instance; a step of one is its own step and leaves every other instance as it is; and
steps of two different instances may be made in either order with the same result. -/
def Obligations.InstancesAreIndependent : Prop :=
  ∀ (extra : Nat) (p q : Platform extra) (j k : Fin (extra + 1)), j ≠ k → p.stepAt j = .next q →
    step p[j] = .next q[j] ∧ (∀ m, m ≠ j → q[m] = p[m]) ∧
    ∀ r, Platform.stepAt q k = .next r → ∃ q', p.stepAt k = .next q' ∧ Platform.stepAt q' j = .next r
end

