-- ==== Sys2Proof/Laws/State.lean ====
section
/-! SUPPORT. One lemma for each field of each update of the state, true by rfl, so that no later proof unfolds a record
update. -/

namespace Sys2Proof.Machine

/-! ### State -/

@[simp] theorem State.setCiph_ciph (s : State) (c : Ciph) : (s.setCiph c).ciph = c := rfl
@[simp] theorem State.setCiph_dig (s : State) (c : Ciph) : (s.setCiph c).dig = s.dig := rfl
@[simp] theorem State.setCiph_ports (s : State) (c : Ciph) : (s.setCiph c).ports = s.ports := rfl
@[simp] theorem State.setCiph_host (s : State) (c : Ciph) : (s.setCiph c).host = s.host := rfl
@[simp] theorem State.setCiph_schedule (s : State) (c : Ciph) : (s.setCiph c).schedule = s.schedule := rfl
@[simp] theorem State.setCiph_params (s : State) (c : Ciph) : (s.setCiph c).params = s.params := rfl
@[simp] theorem State.setCiph_draws (s : State) (c : Ciph) : (s.setCiph c).draws = s.draws := rfl

@[simp] theorem State.setDig_ciph (s : State) (d : Dig) : (s.setDig d).ciph = s.ciph := rfl
@[simp] theorem State.setDig_dig (s : State) (d : Dig) : (s.setDig d).dig = d := rfl
@[simp] theorem State.setDig_ports (s : State) (d : Dig) : (s.setDig d).ports = s.ports := rfl
@[simp] theorem State.setDig_host (s : State) (d : Dig) : (s.setDig d).host = s.host := rfl
@[simp] theorem State.setDig_schedule (s : State) (d : Dig) : (s.setDig d).schedule = s.schedule := rfl
@[simp] theorem State.setDig_params (s : State) (d : Dig) : (s.setDig d).params = s.params := rfl
@[simp] theorem State.setDig_draws (s : State) (d : Dig) : (s.setDig d).draws = s.draws := rfl

@[simp] theorem State.setPorts_ciph (s : State) (p : Ports) : (s.setPorts p).ciph = s.ciph := rfl
@[simp] theorem State.setPorts_dig (s : State) (p : Ports) : (s.setPorts p).dig = s.dig := rfl
@[simp] theorem State.setPorts_ports (s : State) (p : Ports) : (s.setPorts p).ports = p := rfl
@[simp] theorem State.setPorts_host (s : State) (p : Ports) : (s.setPorts p).host = s.host := rfl
@[simp] theorem State.setPorts_schedule (s : State) (p : Ports) : (s.setPorts p).schedule = s.schedule := rfl
@[simp] theorem State.setPorts_params (s : State) (p : Ports) : (s.setPorts p).params = s.params := rfl
@[simp] theorem State.setPorts_draws (s : State) (p : Ports) : (s.setPorts p).draws = s.draws := rfl

@[simp] theorem State.setHost_ciph (s : State) (h : HostSide) : (s.setHost h).ciph = s.ciph := rfl
@[simp] theorem State.setHost_dig (s : State) (h : HostSide) : (s.setHost h).dig = s.dig := rfl
@[simp] theorem State.setHost_ports (s : State) (h : HostSide) : (s.setHost h).ports = s.ports := rfl
@[simp] theorem State.setHost_host (s : State) (h : HostSide) : (s.setHost h).host = h := rfl
@[simp] theorem State.setHost_schedule (s : State) (h : HostSide) : (s.setHost h).schedule = s.schedule := rfl
@[simp] theorem State.setHost_params (s : State) (h : HostSide) : (s.setHost h).params = s.params := rfl
@[simp] theorem State.setHost_draws (s : State) (h : HostSide) : (s.setHost h).draws = s.draws := rfl

@[simp] theorem State.setSchedule_ciph (s : State) (l : List Agent) : (s.setSchedule l).ciph = s.ciph := rfl
@[simp] theorem State.setSchedule_dig (s : State) (l : List Agent) : (s.setSchedule l).dig = s.dig := rfl
@[simp] theorem State.setSchedule_ports (s : State) (l : List Agent) : (s.setSchedule l).ports = s.ports := rfl
@[simp] theorem State.setSchedule_host (s : State) (l : List Agent) : (s.setSchedule l).host = s.host := rfl
@[simp] theorem State.setSchedule_schedule (s : State) (l : List Agent) : (s.setSchedule l).schedule = l := rfl
@[simp] theorem State.setSchedule_params (s : State) (l : List Agent) : (s.setSchedule l).params = s.params := rfl
@[simp] theorem State.setSchedule_draws (s : State) (l : List Agent) : (s.setSchedule l).draws = s.draws := rfl

@[simp] theorem State.setDraws_ciph (s : State) (n : Draws) : (s.setDraws n).ciph = s.ciph := rfl
@[simp] theorem State.setDraws_dig (s : State) (n : Draws) : (s.setDraws n).dig = s.dig := rfl
@[simp] theorem State.setDraws_ports (s : State) (n : Draws) : (s.setDraws n).ports = s.ports := rfl
@[simp] theorem State.setDraws_host (s : State) (n : Draws) : (s.setDraws n).host = s.host := rfl
@[simp] theorem State.setDraws_schedule (s : State) (n : Draws) : (s.setDraws n).schedule = s.schedule := rfl
@[simp] theorem State.setDraws_params (s : State) (n : Draws) : (s.setDraws n).params = s.params := rfl
@[simp] theorem State.setDraws_draws (s : State) (n : Draws) : (s.setDraws n).draws = n := rfl

/-! ### Ciph -/

@[simp] theorem Ciph.setPhase_phase (c : Ciph) (p : CPhase) : (c.setPhase p).phase = p := rfl
@[simp] theorem Ciph.setPhase_round (c : Ciph) (p : CPhase) : (c.setPhase p).round = c.round := rfl
@[simp] theorem Ciph.setPhase_dir (c : Ciph) (p : CPhase) : (c.setPhase p).dir = c.dir := rfl
@[simp] theorem Ciph.setPhase_busy (c : Ciph) (p : CPhase) : (c.setPhase p).busy = c.busy := rfl
@[simp] theorem Ciph.setPhase_done (c : Ciph) (p : CPhase) : (c.setPhase p).done = c.done := rfl
@[simp] theorem Ciph.setPhase_blk (c : Ciph) (p : CPhase) : (c.setPhase p).blk = c.blk := rfl
@[simp] theorem Ciph.setPhase_key (c : Ciph) (p : CPhase) : (c.setPhase p).key = c.key := rfl
@[simp] theorem Ciph.setPhase_st (c : Ciph) (p : CPhase) : (c.setPhase p).st = c.st := rfl
@[simp] theorem Ciph.setPhase_rk (c : Ciph) (p : CPhase) : (c.setPhase p).rk = c.rk := rfl
@[simp] theorem Ciph.setPhase_out (c : Ciph) (p : CPhase) : (c.setPhase p).out = c.out := rfl

@[simp] theorem Ciph.setRound_phase (c : Ciph) (r : Fin 11) : (c.setRound r).phase = c.phase := rfl
@[simp] theorem Ciph.setRound_round (c : Ciph) (r : Fin 11) : (c.setRound r).round = r := rfl
@[simp] theorem Ciph.setRound_dir (c : Ciph) (r : Fin 11) : (c.setRound r).dir = c.dir := rfl
@[simp] theorem Ciph.setRound_busy (c : Ciph) (r : Fin 11) : (c.setRound r).busy = c.busy := rfl
@[simp] theorem Ciph.setRound_done (c : Ciph) (r : Fin 11) : (c.setRound r).done = c.done := rfl
@[simp] theorem Ciph.setRound_blk (c : Ciph) (r : Fin 11) : (c.setRound r).blk = c.blk := rfl
@[simp] theorem Ciph.setRound_key (c : Ciph) (r : Fin 11) : (c.setRound r).key = c.key := rfl
@[simp] theorem Ciph.setRound_st (c : Ciph) (r : Fin 11) : (c.setRound r).st = c.st := rfl
@[simp] theorem Ciph.setRound_rk (c : Ciph) (r : Fin 11) : (c.setRound r).rk = c.rk := rfl
@[simp] theorem Ciph.setRound_out (c : Ciph) (r : Fin 11) : (c.setRound r).out = c.out := rfl

@[simp] theorem Ciph.setSt_phase (c : Ciph) (v : Vector Byte 16) : (c.setSt v).phase = c.phase := rfl
@[simp] theorem Ciph.setSt_round (c : Ciph) (v : Vector Byte 16) : (c.setSt v).round = c.round := rfl
@[simp] theorem Ciph.setSt_dir (c : Ciph) (v : Vector Byte 16) : (c.setSt v).dir = c.dir := rfl
@[simp] theorem Ciph.setSt_busy (c : Ciph) (v : Vector Byte 16) : (c.setSt v).busy = c.busy := rfl
@[simp] theorem Ciph.setSt_done (c : Ciph) (v : Vector Byte 16) : (c.setSt v).done = c.done := rfl
@[simp] theorem Ciph.setSt_blk (c : Ciph) (v : Vector Byte 16) : (c.setSt v).blk = c.blk := rfl
@[simp] theorem Ciph.setSt_key (c : Ciph) (v : Vector Byte 16) : (c.setSt v).key = c.key := rfl
@[simp] theorem Ciph.setSt_st (c : Ciph) (v : Vector Byte 16) : (c.setSt v).st = v := rfl
@[simp] theorem Ciph.setSt_rk (c : Ciph) (v : Vector Byte 16) : (c.setSt v).rk = c.rk := rfl
@[simp] theorem Ciph.setSt_out (c : Ciph) (v : Vector Byte 16) : (c.setSt v).out = c.out := rfl

@[simp] theorem Ciph.setRk_phase (c : Ciph) (v : Vector Byte 176) : (c.setRk v).phase = c.phase := rfl
@[simp] theorem Ciph.setRk_round (c : Ciph) (v : Vector Byte 176) : (c.setRk v).round = c.round := rfl
@[simp] theorem Ciph.setRk_dir (c : Ciph) (v : Vector Byte 176) : (c.setRk v).dir = c.dir := rfl
@[simp] theorem Ciph.setRk_busy (c : Ciph) (v : Vector Byte 176) : (c.setRk v).busy = c.busy := rfl
@[simp] theorem Ciph.setRk_done (c : Ciph) (v : Vector Byte 176) : (c.setRk v).done = c.done := rfl
@[simp] theorem Ciph.setRk_blk (c : Ciph) (v : Vector Byte 176) : (c.setRk v).blk = c.blk := rfl
@[simp] theorem Ciph.setRk_key (c : Ciph) (v : Vector Byte 176) : (c.setRk v).key = c.key := rfl
@[simp] theorem Ciph.setRk_st (c : Ciph) (v : Vector Byte 176) : (c.setRk v).st = c.st := rfl
@[simp] theorem Ciph.setRk_rk (c : Ciph) (v : Vector Byte 176) : (c.setRk v).rk = v := rfl
@[simp] theorem Ciph.setRk_out (c : Ciph) (v : Vector Byte 176) : (c.setRk v).out = c.out := rfl

@[simp] theorem Ciph.setOut_phase (c : Ciph) (v : Vector Byte 16) : (c.setOut v).phase = c.phase := rfl
@[simp] theorem Ciph.setOut_round (c : Ciph) (v : Vector Byte 16) : (c.setOut v).round = c.round := rfl
@[simp] theorem Ciph.setOut_dir (c : Ciph) (v : Vector Byte 16) : (c.setOut v).dir = c.dir := rfl
@[simp] theorem Ciph.setOut_busy (c : Ciph) (v : Vector Byte 16) : (c.setOut v).busy = c.busy := rfl
@[simp] theorem Ciph.setOut_done (c : Ciph) (v : Vector Byte 16) : (c.setOut v).done = c.done := rfl
@[simp] theorem Ciph.setOut_blk (c : Ciph) (v : Vector Byte 16) : (c.setOut v).blk = c.blk := rfl
@[simp] theorem Ciph.setOut_key (c : Ciph) (v : Vector Byte 16) : (c.setOut v).key = c.key := rfl
@[simp] theorem Ciph.setOut_st (c : Ciph) (v : Vector Byte 16) : (c.setOut v).st = c.st := rfl
@[simp] theorem Ciph.setOut_rk (c : Ciph) (v : Vector Byte 16) : (c.setOut v).rk = c.rk := rfl
@[simp] theorem Ciph.setOut_out (c : Ciph) (v : Vector Byte 16) : (c.setOut v).out = v := rfl

@[simp] theorem Ciph.latch_phase (c : Ciph) (b : Vector Byte 16) (k : Vector Byte 16) (x : Bool) : (c.latch b k x).phase = c.phase := rfl
@[simp] theorem Ciph.latch_round (c : Ciph) (b : Vector Byte 16) (k : Vector Byte 16) (x : Bool) : (c.latch b k x).round = c.round := rfl
@[simp] theorem Ciph.latch_dir (c : Ciph) (b : Vector Byte 16) (k : Vector Byte 16) (x : Bool) : (c.latch b k x).dir = x := rfl
@[simp] theorem Ciph.latch_busy (c : Ciph) (b : Vector Byte 16) (k : Vector Byte 16) (x : Bool) : (c.latch b k x).busy = c.busy := rfl
@[simp] theorem Ciph.latch_done (c : Ciph) (b : Vector Byte 16) (k : Vector Byte 16) (x : Bool) : (c.latch b k x).done = c.done := rfl
@[simp] theorem Ciph.latch_blk (c : Ciph) (b : Vector Byte 16) (k : Vector Byte 16) (x : Bool) : (c.latch b k x).blk = b := rfl
@[simp] theorem Ciph.latch_key (c : Ciph) (b : Vector Byte 16) (k : Vector Byte 16) (x : Bool) : (c.latch b k x).key = k := rfl
@[simp] theorem Ciph.latch_st (c : Ciph) (b : Vector Byte 16) (k : Vector Byte 16) (x : Bool) : (c.latch b k x).st = c.st := rfl
@[simp] theorem Ciph.latch_rk (c : Ciph) (b : Vector Byte 16) (k : Vector Byte 16) (x : Bool) : (c.latch b k x).rk = c.rk := rfl
@[simp] theorem Ciph.latch_out (c : Ciph) (b : Vector Byte 16) (k : Vector Byte 16) (x : Bool) : (c.latch b k x).out = c.out := rfl

@[simp] theorem Ciph.flagsIssued_phase (c : Ciph) : (c.flagsIssued).phase = c.phase := rfl
@[simp] theorem Ciph.flagsIssued_round (c : Ciph) : (c.flagsIssued).round = c.round := rfl
@[simp] theorem Ciph.flagsIssued_dir (c : Ciph) : (c.flagsIssued).dir = c.dir := rfl
@[simp] theorem Ciph.flagsIssued_busy (c : Ciph) : (c.flagsIssued).busy = true := rfl
@[simp] theorem Ciph.flagsIssued_done (c : Ciph) : (c.flagsIssued).done = false := rfl
@[simp] theorem Ciph.flagsIssued_blk (c : Ciph) : (c.flagsIssued).blk = c.blk := rfl
@[simp] theorem Ciph.flagsIssued_key (c : Ciph) : (c.flagsIssued).key = c.key := rfl
@[simp] theorem Ciph.flagsIssued_st (c : Ciph) : (c.flagsIssued).st = c.st := rfl
@[simp] theorem Ciph.flagsIssued_rk (c : Ciph) : (c.flagsIssued).rk = c.rk := rfl
@[simp] theorem Ciph.flagsIssued_out (c : Ciph) : (c.flagsIssued).out = c.out := rfl

@[simp] theorem Ciph.flagsDone_phase (c : Ciph) : (c.flagsDone).phase = c.phase := rfl
@[simp] theorem Ciph.flagsDone_round (c : Ciph) : (c.flagsDone).round = c.round := rfl
@[simp] theorem Ciph.flagsDone_dir (c : Ciph) : (c.flagsDone).dir = c.dir := rfl
@[simp] theorem Ciph.flagsDone_busy (c : Ciph) : (c.flagsDone).busy = false := rfl
@[simp] theorem Ciph.flagsDone_done (c : Ciph) : (c.flagsDone).done = true := rfl
@[simp] theorem Ciph.flagsDone_blk (c : Ciph) : (c.flagsDone).blk = c.blk := rfl
@[simp] theorem Ciph.flagsDone_key (c : Ciph) : (c.flagsDone).key = c.key := rfl
@[simp] theorem Ciph.flagsDone_st (c : Ciph) : (c.flagsDone).st = c.st := rfl
@[simp] theorem Ciph.flagsDone_rk (c : Ciph) : (c.flagsDone).rk = c.rk := rfl
@[simp] theorem Ciph.flagsDone_out (c : Ciph) : (c.flagsDone).out = c.out := rfl

/-! ### Dig -/

@[simp] theorem Dig.setPhase_phase (d : Dig) (p : DPhase) : (d.setPhase p).phase = p := rfl
@[simp] theorem Dig.setPhase_blk (d : Dig) (p : DPhase) : (d.setPhase p).blk = d.blk := rfl
@[simp] theorem Dig.setPhase_i (d : Dig) (p : DPhase) : (d.setPhase p).i = d.i := rfl
@[simp] theorem Dig.setPhase_busy (d : Dig) (p : DPhase) : (d.setPhase p).busy = d.busy := rfl
@[simp] theorem Dig.setPhase_done (d : Dig) (p : DPhase) : (d.setPhase p).done = d.done := rfl
@[simp] theorem Dig.setPhase_err (d : Dig) (p : DPhase) : (d.setPhase p).err = d.err := rfl
@[simp] theorem Dig.setPhase_cause (d : Dig) (p : DPhase) : (d.setPhase p).cause = d.cause := rfl
@[simp] theorem Dig.setPhase_msg (d : Dig) (p : DPhase) : (d.setPhase p).msg = d.msg := rfl
@[simp] theorem Dig.setPhase_len (d : Dig) (p : DPhase) : (d.setPhase p).len = d.len := rfl
@[simp] theorem Dig.setPhase_bitlen (d : Dig) (p : DPhase) : (d.setPhase p).bitlen = d.bitlen := rfl
@[simp] theorem Dig.setPhase_plen (d : Dig) (p : DPhase) : (d.setPhase p).plen = d.plen := rfl
@[simp] theorem Dig.setPhase_padbuf (d : Dig) (p : DPhase) : (d.setPhase p).padbuf = d.padbuf := rfl
@[simp] theorem Dig.setPhase_acc (d : Dig) (p : DPhase) : (d.setPhase p).acc = d.acc := rfl
@[simp] theorem Dig.setPhase_work (d : Dig) (p : DPhase) : (d.setPhase p).work = d.work := rfl
@[simp] theorem Dig.setPhase_x (d : Dig) (p : DPhase) : (d.setPhase p).x = d.x := rfl
@[simp] theorem Dig.setPhase_hex (d : Dig) (p : DPhase) : (d.setPhase p).hex = d.hex := rfl

@[simp] theorem Dig.setBlk_phase (d : Dig) (n : Nat) : (d.setBlk n).phase = d.phase := rfl
@[simp] theorem Dig.setBlk_blk (d : Dig) (n : Nat) : (d.setBlk n).blk = n := rfl
@[simp] theorem Dig.setBlk_i (d : Dig) (n : Nat) : (d.setBlk n).i = d.i := rfl
@[simp] theorem Dig.setBlk_busy (d : Dig) (n : Nat) : (d.setBlk n).busy = d.busy := rfl
@[simp] theorem Dig.setBlk_done (d : Dig) (n : Nat) : (d.setBlk n).done = d.done := rfl
@[simp] theorem Dig.setBlk_err (d : Dig) (n : Nat) : (d.setBlk n).err = d.err := rfl
@[simp] theorem Dig.setBlk_cause (d : Dig) (n : Nat) : (d.setBlk n).cause = d.cause := rfl
@[simp] theorem Dig.setBlk_msg (d : Dig) (n : Nat) : (d.setBlk n).msg = d.msg := rfl
@[simp] theorem Dig.setBlk_len (d : Dig) (n : Nat) : (d.setBlk n).len = d.len := rfl
@[simp] theorem Dig.setBlk_bitlen (d : Dig) (n : Nat) : (d.setBlk n).bitlen = d.bitlen := rfl
@[simp] theorem Dig.setBlk_plen (d : Dig) (n : Nat) : (d.setBlk n).plen = d.plen := rfl
@[simp] theorem Dig.setBlk_padbuf (d : Dig) (n : Nat) : (d.setBlk n).padbuf = d.padbuf := rfl
@[simp] theorem Dig.setBlk_acc (d : Dig) (n : Nat) : (d.setBlk n).acc = d.acc := rfl
@[simp] theorem Dig.setBlk_work (d : Dig) (n : Nat) : (d.setBlk n).work = d.work := rfl
@[simp] theorem Dig.setBlk_x (d : Dig) (n : Nat) : (d.setBlk n).x = d.x := rfl
@[simp] theorem Dig.setBlk_hex (d : Dig) (n : Nat) : (d.setBlk n).hex = d.hex := rfl

@[simp] theorem Dig.setI_phase (d : Dig) (j : Fin 64) : (d.setI j).phase = d.phase := rfl
@[simp] theorem Dig.setI_blk (d : Dig) (j : Fin 64) : (d.setI j).blk = d.blk := rfl
@[simp] theorem Dig.setI_i (d : Dig) (j : Fin 64) : (d.setI j).i = j := rfl
@[simp] theorem Dig.setI_busy (d : Dig) (j : Fin 64) : (d.setI j).busy = d.busy := rfl
@[simp] theorem Dig.setI_done (d : Dig) (j : Fin 64) : (d.setI j).done = d.done := rfl
@[simp] theorem Dig.setI_err (d : Dig) (j : Fin 64) : (d.setI j).err = d.err := rfl
@[simp] theorem Dig.setI_cause (d : Dig) (j : Fin 64) : (d.setI j).cause = d.cause := rfl
@[simp] theorem Dig.setI_msg (d : Dig) (j : Fin 64) : (d.setI j).msg = d.msg := rfl
@[simp] theorem Dig.setI_len (d : Dig) (j : Fin 64) : (d.setI j).len = d.len := rfl
@[simp] theorem Dig.setI_bitlen (d : Dig) (j : Fin 64) : (d.setI j).bitlen = d.bitlen := rfl
@[simp] theorem Dig.setI_plen (d : Dig) (j : Fin 64) : (d.setI j).plen = d.plen := rfl
@[simp] theorem Dig.setI_padbuf (d : Dig) (j : Fin 64) : (d.setI j).padbuf = d.padbuf := rfl
@[simp] theorem Dig.setI_acc (d : Dig) (j : Fin 64) : (d.setI j).acc = d.acc := rfl
@[simp] theorem Dig.setI_work (d : Dig) (j : Fin 64) : (d.setI j).work = d.work := rfl
@[simp] theorem Dig.setI_x (d : Dig) (j : Fin 64) : (d.setI j).x = d.x := rfl
@[simp] theorem Dig.setI_hex (d : Dig) (j : Fin 64) : (d.setI j).hex = d.hex := rfl

@[simp] theorem Dig.setAcc_phase (d : Dig) (q : Quad) : (d.setAcc q).phase = d.phase := rfl
@[simp] theorem Dig.setAcc_blk (d : Dig) (q : Quad) : (d.setAcc q).blk = d.blk := rfl
@[simp] theorem Dig.setAcc_i (d : Dig) (q : Quad) : (d.setAcc q).i = d.i := rfl
@[simp] theorem Dig.setAcc_busy (d : Dig) (q : Quad) : (d.setAcc q).busy = d.busy := rfl
@[simp] theorem Dig.setAcc_done (d : Dig) (q : Quad) : (d.setAcc q).done = d.done := rfl
@[simp] theorem Dig.setAcc_err (d : Dig) (q : Quad) : (d.setAcc q).err = d.err := rfl
@[simp] theorem Dig.setAcc_cause (d : Dig) (q : Quad) : (d.setAcc q).cause = d.cause := rfl
@[simp] theorem Dig.setAcc_msg (d : Dig) (q : Quad) : (d.setAcc q).msg = d.msg := rfl
@[simp] theorem Dig.setAcc_len (d : Dig) (q : Quad) : (d.setAcc q).len = d.len := rfl
@[simp] theorem Dig.setAcc_bitlen (d : Dig) (q : Quad) : (d.setAcc q).bitlen = d.bitlen := rfl
@[simp] theorem Dig.setAcc_plen (d : Dig) (q : Quad) : (d.setAcc q).plen = d.plen := rfl
@[simp] theorem Dig.setAcc_padbuf (d : Dig) (q : Quad) : (d.setAcc q).padbuf = d.padbuf := rfl
@[simp] theorem Dig.setAcc_acc (d : Dig) (q : Quad) : (d.setAcc q).acc = q := rfl
@[simp] theorem Dig.setAcc_work (d : Dig) (q : Quad) : (d.setAcc q).work = d.work := rfl
@[simp] theorem Dig.setAcc_x (d : Dig) (q : Quad) : (d.setAcc q).x = d.x := rfl
@[simp] theorem Dig.setAcc_hex (d : Dig) (q : Quad) : (d.setAcc q).hex = d.hex := rfl

@[simp] theorem Dig.setWork_phase (d : Dig) (q : Quad) : (d.setWork q).phase = d.phase := rfl
@[simp] theorem Dig.setWork_blk (d : Dig) (q : Quad) : (d.setWork q).blk = d.blk := rfl
@[simp] theorem Dig.setWork_i (d : Dig) (q : Quad) : (d.setWork q).i = d.i := rfl
@[simp] theorem Dig.setWork_busy (d : Dig) (q : Quad) : (d.setWork q).busy = d.busy := rfl
@[simp] theorem Dig.setWork_done (d : Dig) (q : Quad) : (d.setWork q).done = d.done := rfl
@[simp] theorem Dig.setWork_err (d : Dig) (q : Quad) : (d.setWork q).err = d.err := rfl
@[simp] theorem Dig.setWork_cause (d : Dig) (q : Quad) : (d.setWork q).cause = d.cause := rfl
@[simp] theorem Dig.setWork_msg (d : Dig) (q : Quad) : (d.setWork q).msg = d.msg := rfl
@[simp] theorem Dig.setWork_len (d : Dig) (q : Quad) : (d.setWork q).len = d.len := rfl
@[simp] theorem Dig.setWork_bitlen (d : Dig) (q : Quad) : (d.setWork q).bitlen = d.bitlen := rfl
@[simp] theorem Dig.setWork_plen (d : Dig) (q : Quad) : (d.setWork q).plen = d.plen := rfl
@[simp] theorem Dig.setWork_padbuf (d : Dig) (q : Quad) : (d.setWork q).padbuf = d.padbuf := rfl
@[simp] theorem Dig.setWork_acc (d : Dig) (q : Quad) : (d.setWork q).acc = d.acc := rfl
@[simp] theorem Dig.setWork_work (d : Dig) (q : Quad) : (d.setWork q).work = q := rfl
@[simp] theorem Dig.setWork_x (d : Dig) (q : Quad) : (d.setWork q).x = d.x := rfl
@[simp] theorem Dig.setWork_hex (d : Dig) (q : Quad) : (d.setWork q).hex = d.hex := rfl

@[simp] theorem Dig.setX_phase (d : Dig) (v : Vector Word 16) : (d.setX v).phase = d.phase := rfl
@[simp] theorem Dig.setX_blk (d : Dig) (v : Vector Word 16) : (d.setX v).blk = d.blk := rfl
@[simp] theorem Dig.setX_i (d : Dig) (v : Vector Word 16) : (d.setX v).i = d.i := rfl
@[simp] theorem Dig.setX_busy (d : Dig) (v : Vector Word 16) : (d.setX v).busy = d.busy := rfl
@[simp] theorem Dig.setX_done (d : Dig) (v : Vector Word 16) : (d.setX v).done = d.done := rfl
@[simp] theorem Dig.setX_err (d : Dig) (v : Vector Word 16) : (d.setX v).err = d.err := rfl
@[simp] theorem Dig.setX_cause (d : Dig) (v : Vector Word 16) : (d.setX v).cause = d.cause := rfl
@[simp] theorem Dig.setX_msg (d : Dig) (v : Vector Word 16) : (d.setX v).msg = d.msg := rfl
@[simp] theorem Dig.setX_len (d : Dig) (v : Vector Word 16) : (d.setX v).len = d.len := rfl
@[simp] theorem Dig.setX_bitlen (d : Dig) (v : Vector Word 16) : (d.setX v).bitlen = d.bitlen := rfl
@[simp] theorem Dig.setX_plen (d : Dig) (v : Vector Word 16) : (d.setX v).plen = d.plen := rfl
@[simp] theorem Dig.setX_padbuf (d : Dig) (v : Vector Word 16) : (d.setX v).padbuf = d.padbuf := rfl
@[simp] theorem Dig.setX_acc (d : Dig) (v : Vector Word 16) : (d.setX v).acc = d.acc := rfl
@[simp] theorem Dig.setX_work (d : Dig) (v : Vector Word 16) : (d.setX v).work = d.work := rfl
@[simp] theorem Dig.setX_x (d : Dig) (v : Vector Word 16) : (d.setX v).x = v := rfl
@[simp] theorem Dig.setX_hex (d : Dig) (v : Vector Word 16) : (d.setX v).hex = d.hex := rfl

@[simp] theorem Dig.setHex_phase (d : Dig) (v : Vector Byte 32) : (d.setHex v).phase = d.phase := rfl
@[simp] theorem Dig.setHex_blk (d : Dig) (v : Vector Byte 32) : (d.setHex v).blk = d.blk := rfl
@[simp] theorem Dig.setHex_i (d : Dig) (v : Vector Byte 32) : (d.setHex v).i = d.i := rfl
@[simp] theorem Dig.setHex_busy (d : Dig) (v : Vector Byte 32) : (d.setHex v).busy = d.busy := rfl
@[simp] theorem Dig.setHex_done (d : Dig) (v : Vector Byte 32) : (d.setHex v).done = d.done := rfl
@[simp] theorem Dig.setHex_err (d : Dig) (v : Vector Byte 32) : (d.setHex v).err = d.err := rfl
@[simp] theorem Dig.setHex_cause (d : Dig) (v : Vector Byte 32) : (d.setHex v).cause = d.cause := rfl
@[simp] theorem Dig.setHex_msg (d : Dig) (v : Vector Byte 32) : (d.setHex v).msg = d.msg := rfl
@[simp] theorem Dig.setHex_len (d : Dig) (v : Vector Byte 32) : (d.setHex v).len = d.len := rfl
@[simp] theorem Dig.setHex_bitlen (d : Dig) (v : Vector Byte 32) : (d.setHex v).bitlen = d.bitlen := rfl
@[simp] theorem Dig.setHex_plen (d : Dig) (v : Vector Byte 32) : (d.setHex v).plen = d.plen := rfl
@[simp] theorem Dig.setHex_padbuf (d : Dig) (v : Vector Byte 32) : (d.setHex v).padbuf = d.padbuf := rfl
@[simp] theorem Dig.setHex_acc (d : Dig) (v : Vector Byte 32) : (d.setHex v).acc = d.acc := rfl
@[simp] theorem Dig.setHex_work (d : Dig) (v : Vector Byte 32) : (d.setHex v).work = d.work := rfl
@[simp] theorem Dig.setHex_x (d : Dig) (v : Vector Byte 32) : (d.setHex v).x = d.x := rfl
@[simp] theorem Dig.setHex_hex (d : Dig) (v : Vector Byte 32) : (d.setHex v).hex = v := rfl

@[simp] theorem Dig.setPadded_phase (d : Dig) (u : BitVec 64) (n : Nat) (l : List Byte) : (d.setPadded u n l).phase = d.phase := rfl
@[simp] theorem Dig.setPadded_blk (d : Dig) (u : BitVec 64) (n : Nat) (l : List Byte) : (d.setPadded u n l).blk = d.blk := rfl
@[simp] theorem Dig.setPadded_i (d : Dig) (u : BitVec 64) (n : Nat) (l : List Byte) : (d.setPadded u n l).i = d.i := rfl
@[simp] theorem Dig.setPadded_busy (d : Dig) (u : BitVec 64) (n : Nat) (l : List Byte) : (d.setPadded u n l).busy = d.busy := rfl
@[simp] theorem Dig.setPadded_done (d : Dig) (u : BitVec 64) (n : Nat) (l : List Byte) : (d.setPadded u n l).done = d.done := rfl
@[simp] theorem Dig.setPadded_err (d : Dig) (u : BitVec 64) (n : Nat) (l : List Byte) : (d.setPadded u n l).err = d.err := rfl
@[simp] theorem Dig.setPadded_cause (d : Dig) (u : BitVec 64) (n : Nat) (l : List Byte) : (d.setPadded u n l).cause = d.cause := rfl
@[simp] theorem Dig.setPadded_msg (d : Dig) (u : BitVec 64) (n : Nat) (l : List Byte) : (d.setPadded u n l).msg = d.msg := rfl
@[simp] theorem Dig.setPadded_len (d : Dig) (u : BitVec 64) (n : Nat) (l : List Byte) : (d.setPadded u n l).len = d.len := rfl
@[simp] theorem Dig.setPadded_bitlen (d : Dig) (u : BitVec 64) (n : Nat) (l : List Byte) : (d.setPadded u n l).bitlen = u := rfl
@[simp] theorem Dig.setPadded_plen (d : Dig) (u : BitVec 64) (n : Nat) (l : List Byte) : (d.setPadded u n l).plen = n := rfl
@[simp] theorem Dig.setPadded_padbuf (d : Dig) (u : BitVec 64) (n : Nat) (l : List Byte) : (d.setPadded u n l).padbuf = l := rfl
@[simp] theorem Dig.setPadded_acc (d : Dig) (u : BitVec 64) (n : Nat) (l : List Byte) : (d.setPadded u n l).acc = d.acc := rfl
@[simp] theorem Dig.setPadded_work (d : Dig) (u : BitVec 64) (n : Nat) (l : List Byte) : (d.setPadded u n l).work = d.work := rfl
@[simp] theorem Dig.setPadded_x (d : Dig) (u : BitVec 64) (n : Nat) (l : List Byte) : (d.setPadded u n l).x = d.x := rfl
@[simp] theorem Dig.setPadded_hex (d : Dig) (u : BitVec 64) (n : Nat) (l : List Byte) : (d.setPadded u n l).hex = d.hex := rfl

@[simp] theorem Dig.latch_phase (d : Dig) (m : List Byte) (u : BitVec 64) : (d.latch m u).phase = d.phase := rfl
@[simp] theorem Dig.latch_blk (d : Dig) (m : List Byte) (u : BitVec 64) : (d.latch m u).blk = d.blk := rfl
@[simp] theorem Dig.latch_i (d : Dig) (m : List Byte) (u : BitVec 64) : (d.latch m u).i = d.i := rfl
@[simp] theorem Dig.latch_busy (d : Dig) (m : List Byte) (u : BitVec 64) : (d.latch m u).busy = d.busy := rfl
@[simp] theorem Dig.latch_done (d : Dig) (m : List Byte) (u : BitVec 64) : (d.latch m u).done = d.done := rfl
@[simp] theorem Dig.latch_err (d : Dig) (m : List Byte) (u : BitVec 64) : (d.latch m u).err = d.err := rfl
@[simp] theorem Dig.latch_cause (d : Dig) (m : List Byte) (u : BitVec 64) : (d.latch m u).cause = d.cause := rfl
@[simp] theorem Dig.latch_msg (d : Dig) (m : List Byte) (u : BitVec 64) : (d.latch m u).msg = m := rfl
@[simp] theorem Dig.latch_len (d : Dig) (m : List Byte) (u : BitVec 64) : (d.latch m u).len = u := rfl
@[simp] theorem Dig.latch_bitlen (d : Dig) (m : List Byte) (u : BitVec 64) : (d.latch m u).bitlen = d.bitlen := rfl
@[simp] theorem Dig.latch_plen (d : Dig) (m : List Byte) (u : BitVec 64) : (d.latch m u).plen = d.plen := rfl
@[simp] theorem Dig.latch_padbuf (d : Dig) (m : List Byte) (u : BitVec 64) : (d.latch m u).padbuf = d.padbuf := rfl
@[simp] theorem Dig.latch_acc (d : Dig) (m : List Byte) (u : BitVec 64) : (d.latch m u).acc = d.acc := rfl
@[simp] theorem Dig.latch_work (d : Dig) (m : List Byte) (u : BitVec 64) : (d.latch m u).work = d.work := rfl
@[simp] theorem Dig.latch_x (d : Dig) (m : List Byte) (u : BitVec 64) : (d.latch m u).x = d.x := rfl
@[simp] theorem Dig.latch_hex (d : Dig) (m : List Byte) (u : BitVec 64) : (d.latch m u).hex = d.hex := rfl

@[simp] theorem Dig.flagsIssued_phase (d : Dig) : (d.flagsIssued).phase = d.phase := rfl
@[simp] theorem Dig.flagsIssued_blk (d : Dig) : (d.flagsIssued).blk = d.blk := rfl
@[simp] theorem Dig.flagsIssued_i (d : Dig) : (d.flagsIssued).i = d.i := rfl
@[simp] theorem Dig.flagsIssued_busy (d : Dig) : (d.flagsIssued).busy = true := rfl
@[simp] theorem Dig.flagsIssued_done (d : Dig) : (d.flagsIssued).done = false := rfl
@[simp] theorem Dig.flagsIssued_err (d : Dig) : (d.flagsIssued).err = false := rfl
@[simp] theorem Dig.flagsIssued_cause (d : Dig) : (d.flagsIssued).cause = 0 := rfl
@[simp] theorem Dig.flagsIssued_msg (d : Dig) : (d.flagsIssued).msg = d.msg := rfl
@[simp] theorem Dig.flagsIssued_len (d : Dig) : (d.flagsIssued).len = d.len := rfl
@[simp] theorem Dig.flagsIssued_bitlen (d : Dig) : (d.flagsIssued).bitlen = d.bitlen := rfl
@[simp] theorem Dig.flagsIssued_plen (d : Dig) : (d.flagsIssued).plen = d.plen := rfl
@[simp] theorem Dig.flagsIssued_padbuf (d : Dig) : (d.flagsIssued).padbuf = d.padbuf := rfl
@[simp] theorem Dig.flagsIssued_acc (d : Dig) : (d.flagsIssued).acc = d.acc := rfl
@[simp] theorem Dig.flagsIssued_work (d : Dig) : (d.flagsIssued).work = d.work := rfl
@[simp] theorem Dig.flagsIssued_x (d : Dig) : (d.flagsIssued).x = d.x := rfl
@[simp] theorem Dig.flagsIssued_hex (d : Dig) : (d.flagsIssued).hex = d.hex := rfl

@[simp] theorem Dig.flagsDone_phase (d : Dig) : (d.flagsDone).phase = d.phase := rfl
@[simp] theorem Dig.flagsDone_blk (d : Dig) : (d.flagsDone).blk = d.blk := rfl
@[simp] theorem Dig.flagsDone_i (d : Dig) : (d.flagsDone).i = d.i := rfl
@[simp] theorem Dig.flagsDone_busy (d : Dig) : (d.flagsDone).busy = false := rfl
@[simp] theorem Dig.flagsDone_done (d : Dig) : (d.flagsDone).done = true := rfl
@[simp] theorem Dig.flagsDone_err (d : Dig) : (d.flagsDone).err = d.err := rfl
@[simp] theorem Dig.flagsDone_cause (d : Dig) : (d.flagsDone).cause = d.cause := rfl
@[simp] theorem Dig.flagsDone_msg (d : Dig) : (d.flagsDone).msg = d.msg := rfl
@[simp] theorem Dig.flagsDone_len (d : Dig) : (d.flagsDone).len = d.len := rfl
@[simp] theorem Dig.flagsDone_bitlen (d : Dig) : (d.flagsDone).bitlen = d.bitlen := rfl
@[simp] theorem Dig.flagsDone_plen (d : Dig) : (d.flagsDone).plen = d.plen := rfl
@[simp] theorem Dig.flagsDone_padbuf (d : Dig) : (d.flagsDone).padbuf = d.padbuf := rfl
@[simp] theorem Dig.flagsDone_acc (d : Dig) : (d.flagsDone).acc = d.acc := rfl
@[simp] theorem Dig.flagsDone_work (d : Dig) : (d.flagsDone).work = d.work := rfl
@[simp] theorem Dig.flagsDone_x (d : Dig) : (d.flagsDone).x = d.x := rfl
@[simp] theorem Dig.flagsDone_hex (d : Dig) : (d.flagsDone).hex = d.hex := rfl

@[simp] theorem Dig.flagsFailed_phase (d : Dig) : (d.flagsFailed).phase = d.phase := rfl
@[simp] theorem Dig.flagsFailed_blk (d : Dig) : (d.flagsFailed).blk = d.blk := rfl
@[simp] theorem Dig.flagsFailed_i (d : Dig) : (d.flagsFailed).i = d.i := rfl
@[simp] theorem Dig.flagsFailed_busy (d : Dig) : (d.flagsFailed).busy = false := rfl
@[simp] theorem Dig.flagsFailed_done (d : Dig) : (d.flagsFailed).done = true := rfl
@[simp] theorem Dig.flagsFailed_err (d : Dig) : (d.flagsFailed).err = true := rfl
@[simp] theorem Dig.flagsFailed_cause (d : Dig) : (d.flagsFailed).cause = 1 := rfl
@[simp] theorem Dig.flagsFailed_msg (d : Dig) : (d.flagsFailed).msg = d.msg := rfl
@[simp] theorem Dig.flagsFailed_len (d : Dig) : (d.flagsFailed).len = d.len := rfl
@[simp] theorem Dig.flagsFailed_bitlen (d : Dig) : (d.flagsFailed).bitlen = d.bitlen := rfl
@[simp] theorem Dig.flagsFailed_plen (d : Dig) : (d.flagsFailed).plen = d.plen := rfl
@[simp] theorem Dig.flagsFailed_padbuf (d : Dig) : (d.flagsFailed).padbuf = d.padbuf := rfl
@[simp] theorem Dig.flagsFailed_acc (d : Dig) : (d.flagsFailed).acc = d.acc := rfl
@[simp] theorem Dig.flagsFailed_work (d : Dig) : (d.flagsFailed).work = d.work := rfl
@[simp] theorem Dig.flagsFailed_x (d : Dig) : (d.flagsFailed).x = d.x := rfl
@[simp] theorem Dig.flagsFailed_hex (d : Dig) : (d.flagsFailed).hex = d.hex := rfl

end Sys2Proof.Machine
end

