-- ==== Sys2Proof/Laws/Ops.lean ====
section
/-! SUPPORT. One lemma for each shared operation that says what it gives, so that later proofs cite it and do not unfold the
operation. -/

namespace Sys2Proof.Machine

/-! ### Operand forms, element by element -/

theorem portLanes_get (v : BitVec 128) (i : Fin 16) : (portLanes v)[i] = v.extractLsb' (8 * i.val) 8 := by
  simp [portLanes]

/-- Bit k of lane i of a list of bytes laid in lanes. -/
theorem lanesToNat_testBit (l : List Byte) (i k : Nat) (hk : k < 8) (h : i < l.length) :
    (lanesToNat l).testBit (8 * i + k) = l[i].getLsbD k := by
  induction l generalizing i with
  | nil => simp at h
  | cons b bs ih =>
    have e : lanesToNat (b :: bs) = 2 ^ 8 * lanesToNat bs + b.toNat := Nat.add_comm _ _
    rw [e, Nat.testBit_two_pow_mul_add _ b.isLt]
    cases i with
    | zero => simp [hk, BitVec.getLsbD]
    | succ n =>
      rw [if_neg (by omega), show 8 * (n + 1) + k - 8 = 8 * n + k by omega]
      exact ih n (by simpa using h)

/-- R34: byte i of a packed port value is its lane i. -/
theorem packLanes_get {n : Nat} (v : Vector Byte n) (i : Fin n) : (packLanes v).extractLsb' (8 * i.val) 8 = v[i] := by
  apply BitVec.eq_of_getLsbD_eq
  intro k hk
  have := i.isLt
  rw [BitVec.getLsbD_extractLsb', packLanes, BitVec.getLsbD_ofNat, lanesToNat_testBit _ _ _ hk (by simp)]
  simp [hk]; omega

/-- R34: the flags of C_STATUS in their places. -/
theorem ciph_status_bits (c : Ciph) : c.status.getLsbD 0 = c.busy ∧ c.status.getLsbD 1 = c.done := by
  unfold Ciph.status; cases c.busy <;> cases c.done <;> decide

/-- R34: the flags of D_STATUS in their places. -/
theorem dig_status_bits (d : Dig) : d.status.getLsbD 0 = d.busy ∧ d.status.getLsbD 1 = d.done ∧
    d.status.getLsbD 2 = d.err ∧ d.status.extractLsb' 3 2 = d.cause := by
  unfold Dig.status
  generalize d.cause = c
  cases d.busy <;> cases d.done <;> cases d.err <;> revert c <;> decide

theorem substitute_get (t : Vector Byte 256) (v : Vector Byte 16) (i : Fin 16) : (substitute t v)[i] = lookup t v[i] := by
  simp [substitute]

theorem permute_get (f : Fin 16 → Fin 16) (v : Vector Byte 16) (i : Fin 16) : (permute f v)[i] = v[f i] := by
  simp [permute]

theorem shiftRows_get (v : Vector Byte 16) (i : Fin 16) : (shiftRows v)[i] = v[shiftIndex i] := permute_get _ v i

theorem invShiftRows_get (v : Vector Byte 16) (i : Fin 16) : (invShiftRows v)[i] = v[ishiftIndex i] := permute_get _ v i

theorem addRoundKey_get (v : Vector Byte 16) (rk : Vector Byte 176) (r : Fin 11) (i : Fin 16) :
    (addRoundKey v rk r)[i] = v[i] ^^^ sliceByte rk r i := by
  simp [addRoundKey]

theorem blockWords_get (b : List Byte) (n : Nat) (j : Fin 16) :
    (blockWords b n)[j] = le32 (padByte b (64 * n + 4 * j.val)) (padByte b (64 * n + 4 * j.val + 1))
      (padByte b (64 * n + 4 * j.val + 2)) (padByte b (64 * n + 4 * j.val + 3)) := by
  simp [blockWords]

theorem renderHex_get (q : Quad) (j : Nat) (h : j < 32) :
    (renderHex q)[j] = if j % 2 = 0 then hexDigit ((digestByte q (j / 2)).toNat / 16)
      else hexDigit ((digestByte q (j / 2)).toNat % 16) := by
  simp [renderHex]

/-- Two vectors with equal elements are equal. -/
theorem vector_ext {α : Type} {n : Nat} {u v : Vector α n} (h : ∀ i : Fin n, u[i] = v[i]) : u = v :=
  Vector.ext fun i hi => h ⟨i, hi⟩

/-- R86: the first sixteen bytes of the round-key material, by index. -/
theorem roundKeys_get_key (key : Vector Byte 16) (tail : Vector Byte 160) (i : Fin 16) :
    (roundKeys key tail)[i.val] = key[i] := by
  simp [roundKeys]

/-- R86: the other 160 bytes, by index. -/
theorem roundKeys_get_tail (key : Vector Byte 16) (tail : Vector Byte 160) (j : Fin 160) :
    (roundKeys key tail)[16 + j.val] = tail[j] := by
  simp [roundKeys]

/-- R86: slice 0 of the round-key material is the key. -/
theorem roundKeys_key (key : Vector Byte 16) (tail : Vector Byte 160) (i : Fin 16) :
    sliceByte (roundKeys key tail) 0 i = key[i] := by
  simp [sliceByte, roundKeys]

/-- R14, R86: 176 bytes whose slice 0 is a key are that key's round-key material for some tail. -/
theorem eq_roundKeys {rk : Vector Byte 176} {key : Vector Byte 16} (h : ∀ i : Fin 16, sliceByte rk 0 i = key[i]) :
    rk = roundKeys key (.ofFn fun j => rk[16 + j.val]) := by
  apply Vector.ext
  intro j hj
  by_cases hk : j < 16
  · simpa [roundKeys, hk, sliceByte] using h ⟨j, hk⟩
  · simp [roundKeys, hk, Nat.add_sub_cancel' (Nat.le_of_not_lt hk)]

/-- R86: the other slices are the tail. -/
theorem roundKeys_tail (key : Vector Byte 16) (tail : Vector Byte 160) (r : Fin 11) (hr : 0 < r.val) (i : Fin 16) :
    sliceByte (roundKeys key tail) r i = tail[16 * r.val + i.val - 16]'(by omega) := by
  have h : ¬ 16 * r.val + i.val < 16 := by omega
  simp [sliceByte, roundKeys, h]

/-- R84: the two row shifts undo each other on indices. -/
theorem shiftIndex_ishiftIndex (i : Fin 16) : shiftIndex (ishiftIndex i) = i ∧ ishiftIndex (shiftIndex i) = i := by
  revert i; decide

theorem invShiftRows_shiftRows (v : Vector Byte 16) : invShiftRows (shiftRows v) = v :=
  vector_ext fun i => by simp only [invShiftRows_get, shiftRows_get, (shiftIndex_ishiftIndex i).1]

theorem shiftRows_invShiftRows (v : Vector Byte 16) : shiftRows (invShiftRows v) = v :=
  vector_ext fun i => by simp only [shiftRows_get, invShiftRows_get, (shiftIndex_ishiftIndex i).2]

/-! ### Lengths -/

/-- R112: a padded message is whole blocks. -/
theorem paddedLength_blocks (n : Nat) : paddedLength n = 64 * blockCount (paddedLength n) := by
  simp [paddedLength, blockCount]

theorem blockCount_pos (n : Nat) : 0 < blockCount (paddedLength n) := by
  simp [paddedLength, blockCount]

/-- R112: there is room for the marker and the length field, and at most 63 zero bytes between. -/
theorem paddedLength_bounds (n : Nat) : n + 9 ≤ paddedLength n ∧ paddedLength n ≤ n + 72 := by
  unfold paddedLength; omega

theorem lengthField_length (u : BitVec 64) : (lengthField u).length = 8 := rfl

/-- R113: the padded message of a message of LEN bytes has PLEN bytes. -/
theorem padMessage_length {msg : List Byte} {len : BitVec 64} (h : msg.length = len.toNat) :
    (padMessage msg len).length = paddedLength len.toNat := by
  have := paddedLength_bounds len.toNat
  simp only [padMessage, List.length_append, List.length_replicate, List.length_cons, List.length_nil, lengthField_length, h]
  omega

/-- R19, R42: its last eight bytes are the length field. -/
theorem padMessage_drop {msg : List Byte} {len : BitVec 64} (h : msg.length = len.toNat) :
    (padMessage msg len).drop (paddedLength len.toNat - 8) = lengthField (bitLength len) := by
  have := paddedLength_bounds len.toNat
  have hl : paddedLength len.toNat - 8 =
      (msg ++ [0x80] ++ List.replicate (paddedLength len.toNat - len.toNat - 9) (0 : Byte)).length := by
    simp only [List.length_append, List.length_replicate, List.length_cons, List.length_nil, h]; omega
  rw [hl, padMessage, List.drop_left]

/-- R41: inside the buffer no read of it is a free value. -/
theorem padByte_inside {b : List Byte} {i : Nat} (h : i < b.length) : padByte b i = b[i] := by
  simp [padByte, h]

/-! ### Rounds -/

/-- R89: round r of ENC, from the state after r - 1 rounds. -/
theorem encRounds_round (p : Params) (rk : Vector Byte 176) (v : Vector Byte 16) (r : Fin 11) (h : 1 ≤ r.val) :
    addRoundKey (shiftRows (substitute p.sbox (encRounds p rk v (r.val - 1)))) rk r = encRounds p rk v r.val := by
  obtain ⟨n, hn⟩ : ∃ n, r.val = n + 1 := ⟨r.val - 1, by omega⟩
  have hr : r = Fin.ofNat 11 (n + 1) := Fin.ext (by simp [Fin.ofNat]; omega)
  rw [hn]
  simp only [Nat.add_sub_cancel, encRounds, encRound]
  rw [← hr]

/-- R90: the round of DEC that uses slice r, from the state after 9 - r rounds. -/
theorem decRounds_round (p : Params) (rk : Vector Byte 176) (v : Vector Byte 16) (r : Fin 11) (h : r.val ≤ 9) :
    addRoundKey (substitute p.invSbox (invShiftRows (decRounds p rk v (9 - r.val)))) rk r =
      decRounds p rk v (10 - r.val) := by
  have hr : r = Fin.ofNat 11 (9 - (9 - r.val)) := Fin.ext (by simp [Fin.ofNat]; omega)
  rw [show 10 - r.val = (9 - r.val) + 1 by omega]
  simp only [decRounds, decRound]
  rw [← hr]

/-- R110: sub-round i, from the working registers after i sub-rounds. -/
theorem subRounds_round (x : Vector Word 16) (q : Quad) (i : Fin 64) :
    subRound x i (subRounds x q i.val) = subRounds x q (i.val + 1) := by
  have hi : i = Fin.ofNat 64 i.val := Fin.ext (by simp [Fin.ofNat]; omega)
  simp only [subRounds]
  rw [← hi]

/-! ### Issue steps and the error -/

/-- R66, R163: the CIPH issue step answers a next state exactly when the unit is not busy, and this one. -/
theorem issueCiph_next {dir : Bool} {s t : State} : issueCiph dir s = .next t ↔
    s.ciph.busy = false ∧ t = s.setCiph
      (((s.ciph.latch (portLanes s.ports.cBlockIn) (portLanes s.ports.cKeyIn) dir).flagsIssued).setPhase .loadst) := by
  unfold issueCiph
  cases s.ciph.busy <;> simp [eq_comm]

/-- R67, R163: the DIG issue step answers a next state exactly when the unit is not busy and the length is that of the
message, and this one. -/
theorem issueDig_next {s t : State} : issueDig s = .next t ↔
    s.dig.busy = false ∧ messageWf s.ports.dMsgIn s.ports.dLenIn = true ∧
      t = s.setDig (((s.dig.latch s.ports.dMsgIn s.ports.dLenIn).flagsIssued).setPhase .padgen) := by
  unfold issueDig
  cases s.dig.busy <;> cases messageWf s.ports.dMsgIn s.ports.dLenIn <;> simp [eq_comm]

theorem messageWf_iff {msg : List Byte} {len : BitVec 64} : messageWf msg len = true ↔ msg.length = len.toNat := by
  simp [messageWf]

/-- R160: AllocationFailure changes five fields. -/
theorem raiseAllocationFailure_eq (d : Dig) : raiseAllocationFailure d =
    { d with phase := .idle, busy := false, done := true, err := true, cause := 1 } := rfl

/-- R180: what the RESET event leaves. -/
theorem resetBlock_eq (s : State) : resetBlock s =
    { s with ciph := drawnCiph s.draws.inst s.draws.resets, dig := drawnDig s.draws.inst s.draws.resets,
             draws := s.draws.nextReset } := rfl

/-! ### Sequencer moves -/

/-- R25: the four outcomes of the sequencer after C.ARK. -/
theorem afterArk_cases (c : Ciph) : ∃ p r, afterArk c = (c.setRound r).setPhase p ∧
    (p = .sub ∧ c.dir = false ∨ p = .ishift ∧ c.dir = true ∨ p = .out) := by
  unfold afterArk
  split
  · exact ⟨_, _, rfl, .inl ⟨rfl, ‹_›⟩⟩
  · exact ⟨_, _, rfl, .inr (.inl ⟨rfl, ‹_›⟩)⟩
  · split
    · exact ⟨_, _, rfl, .inl ⟨rfl, ‹_›⟩⟩
    · exact ⟨.out, c.round, rfl, .inr (.inr rfl)⟩
  · split
    · exact ⟨_, _, rfl, .inr (.inl ⟨rfl, ‹_›⟩)⟩
    · exact ⟨.out, c.round, rfl, .inr (.inr rfl)⟩

/-- R32: the sequencer after a sub-round moves D_I or the phase and nothing else. -/
theorem afterStep_cases (d : Dig) : ∃ p j, afterStep d = (d.setI j).setPhase p ∧
    (p = .step ∧ j.val = d.i.val + 1 ∨ p = .addback ∧ d.i.val = 63 ∧ j = d.i) := by
  unfold afterStep
  split
  · exact ⟨_, _, rfl, .inl ⟨rfl, rfl⟩⟩
  · exact ⟨.addback, d.i, rfl, .inr ⟨rfl, by omega, rfl⟩⟩

/-- R32: the sequencer after an add-back moves D_BLK or the phase and nothing else. -/
theorem afterAddback_cases (d : Dig) : ∃ p n, afterAddback d = (d.setBlk n).setPhase p ∧
    (p = .loadx ∧ n = d.blk + 1 ∧ d.blk + 1 < blockCount d.plen ∨
      p = .render ∧ n = d.blk ∧ blockCount d.plen ≤ d.blk + 1) := by
  unfold afterAddback
  split
  · exact ⟨_, _, rfl, .inl ⟨rfl, rfl, ‹_›⟩⟩
  · exact ⟨.render, d.blk, rfl, .inr ⟨rfl, rfl, by omega⟩⟩

end Sys2Proof.Machine
end

