-- ==== Sys2Proof/Laws/Exec.lean ====
section
/-! SUPPORT. What each operation answers, as one equation of the whole next state, and which answers are possible at all.
Proofs cite these and do not unfold a meaning. -/

namespace Sys2Proof.Machine

/-! ### Micro-operations of CIPH -/

theorem exec_cLoadst (s : State) : exec .cLoadst s =
    .next { s with ciph := { s.ciph with st := s.ciph.blk, phase := .keyload } } := rfl

theorem exec_cKeyload (s : State) : exec .cKeyload s =
    .next { s with ciph := { s.ciph with rk := roundKeys s.ciph.key (tailOf s.params.tail s.draws),
                                         round := if s.ciph.dir then 10 else 0, phase := .whiten },
                   draws := { s.draws with tails := s.draws.tails + 1 } } := by
  unfold exec execCKeyload
  generalize roundKeys _ _ = v
  rfl

theorem exec_cArk (s : State) : exec .cArk s =
    .next { s with ciph := afterArk { s.ciph with st := addRoundKey s.ciph.st s.ciph.rk s.ciph.round } } := rfl

theorem exec_cSub (s : State) : exec .cSub s =
    .next { s with ciph := { s.ciph with st := substitute s.params.sbox s.ciph.st, phase := .shift } } := rfl

theorem exec_cShift (s : State) : exec .cShift s =
    .next { s with ciph := { s.ciph with st := shiftRows s.ciph.st, phase := .ark } } := rfl

theorem exec_cIsub (s : State) : exec .cIsub s =
    .next { s with ciph := { s.ciph with st := substitute s.params.invSbox s.ciph.st, phase := .ark } } := rfl

theorem exec_cIshift (s : State) : exec .cIshift s =
    .next { s with ciph := { s.ciph with st := invShiftRows s.ciph.st, phase := .isub } } := rfl

theorem exec_cOut (s : State) : exec .cOut s =
    .next { s with ciph := { s.ciph with out := s.ciph.st, busy := false, done := true, phase := .idle } } := rfl

/-! ### Micro-operations of DIG -/

/-- R113: D.PADGEN where the padded message fits. -/
theorem exec_dPadgen_fits {s : State} (h : fitsBuffer s.params.padCap (paddedLength s.dig.len.toNat) = true) :
    exec .dPadgen s =
      .next { s with dig := { s.dig with bitlen := bitLength s.dig.len, plen := paddedLength s.dig.len.toNat,
                                         padbuf := padMessage s.dig.msg s.dig.len, phase := .init } } := by
  simp only [exec, execDPadgen, h]; rfl

/-- R160: D.PADGEN where it does not. -/
theorem exec_dPadgen_fails {s : State} (h : fitsBuffer s.params.padCap (paddedLength s.dig.len.toNat) = false) :
    exec .dPadgen s =
      .next { s with dig := { s.dig with err := true, cause := 1, done := true, busy := false, phase := .idle } } := by
  simp only [exec, execDPadgen, h]; rfl

theorem exec_dInit (s : State) : exec .dInit s =
    .next { s with dig := { s.dig with acc := ivQuad, blk := 0, phase := .loadx } } := rfl

theorem exec_dLoadx (s : State) : exec .dLoadx s =
    .next { s with dig := { s.dig with x := blockWords s.dig.padbuf s.dig.blk, work := s.dig.acc, i := 0,
                                       phase := .step } } := by
  simp only [exec, execDLoadx, State.setDig, Dig.setX, Dig.setWork, Dig.setI, Dig.setPhase]

theorem exec_dStep (s : State) : exec .dStep s =
    .next { s with dig := afterStep { s.dig with work := subRound s.dig.x s.dig.i s.dig.work } } := by
  simp only [exec, execDStep, State.setDig, Dig.setWork]

theorem exec_dAddback (s : State) : exec .dAddback s =
    .next { s with dig := afterAddback { s.dig with acc := s.dig.acc.add s.dig.work } } := by
  simp only [exec, execDAddback, State.setDig, Dig.setAcc]

theorem exec_dRender (s : State) : exec .dRender s =
    .next { s with dig := { s.dig with hex := renderHex s.dig.acc, busy := false, done := true, phase := .idle } } := by
  simp only [exec, execDRender, State.setDig, Dig.setHex, Dig.flagsDone, Dig.setPhase]

/-! ### Commands -/

theorem exec_enc (s : State) : exec .enc s = issueCiph false s := rfl

theorem exec_dec (s : State) : exec .dec s = issueCiph true s := rfl

theorem exec_hash (s : State) : exec .hash s = issueDig s := rfl

end Sys2Proof.Machine
end

