-- ==== Sys2Proof/Laws/PerInstr.lean ====
section
/-! SUPPORT. Facts about every operation as syntax, one lemma for each constructor. Family RoundTrip: the decoder reads an
operation's byte as that operation. Family FormatBit: bit 7 of an operation's byte tells a micro-operation from a command
(spec/30_encoding.md R63, R69). -/

/-- R62, R63: the decoder reads the byte of an operation as that operation. -/
def Sys2Proof.Laws.RoundTrip.Statement (i : Sys2Proof.Instr) : Prop :=
  Sys2Proof.decode (Sys2Proof.encode i) = .ok i

namespace Sys2Proof.Laws.RoundTrip

theorem enc : Statement .enc := rfl
theorem dec : Statement .dec := rfl
theorem hash : Statement .hash := rfl
theorem cLoadst : Statement .cLoadst := rfl
theorem cKeyload : Statement .cKeyload := rfl
theorem cArk : Statement .cArk := rfl
theorem cSub : Statement .cSub := rfl
theorem cShift : Statement .cShift := rfl
theorem cIsub : Statement .cIsub := rfl
theorem cIshift : Statement .cIshift := rfl
theorem cOut : Statement .cOut := rfl
theorem dPadgen : Statement .dPadgen := rfl
theorem dInit : Statement .dInit := rfl
theorem dLoadx : Statement .dLoadx := rfl
theorem dStep : Statement .dStep := rfl
theorem dAddback : Statement .dAddback := rfl
theorem dRender : Statement .dRender := rfl

end Sys2Proof.Laws.RoundTrip

/-- R63, R69: bit 7 of the byte is 0 for the operations some command port takes, and 1 for the others. -/
def Sys2Proof.Laws.FormatBit.Statement (i : Sys2Proof.Instr) : Prop :=
  Sys2Proof.isUopByte (Sys2Proof.encode i) = !(i.wfOn .cCmd || i.wfOn .dCmd)

namespace Sys2Proof.Laws.FormatBit

theorem enc : Statement .enc := rfl
theorem dec : Statement .dec := rfl
theorem hash : Statement .hash := rfl
theorem cLoadst : Statement .cLoadst := rfl
theorem cKeyload : Statement .cKeyload := rfl
theorem cArk : Statement .cArk := rfl
theorem cSub : Statement .cSub := rfl
theorem cShift : Statement .cShift := rfl
theorem cIsub : Statement .cIsub := rfl
theorem cIshift : Statement .cIshift := rfl
theorem cOut : Statement .cOut := rfl
theorem dPadgen : Statement .dPadgen := rfl
theorem dInit : Statement .dInit := rfl
theorem dLoadx : Statement .dLoadx := rfl
theorem dStep : Statement .dStep := rfl
theorem dAddback : Statement .dAddback := rfl
theorem dRender : Statement .dRender := rfl

end Sys2Proof.Laws.FormatBit
end

