-- ==== Sys2Proof/Laws/Step.lean ====
section
/-! SUPPORT. What a turn of each agent, and a step, can do. Proofs about `step` cite these and do not unfold it. -/

namespace Sys2Proof.Machine

/-- R25: a CIPH turn always answers a next state, which differs in the CIPH unit and in the count of tails drawn only. -/
theorem ciphTurn_next (s : State) : ∃ c n, ciphTurn s = .next ((s.setCiph c).setDraws { s.draws with tails := n }) := by
  unfold ciphTurn ciphUop unitTurn
  cases s.ciph.phase <;> exact ⟨_, _, rfl⟩

/-- R32: a DIG turn always answers a next state, which differs in the DIG unit only. -/
theorem digTurn_next (s : State) : ∃ d, digTurn s = .next (s.setDig d) := by
  unfold digTurn digUop unitTurn
  cases s.dig.phase <;> exact ⟨_, rfl⟩

/-- R25, U15: an idle unit's turn changes nothing. -/
theorem ciphTurn_idle {s : State} (h : s.ciph.phase = .idle) : ciphTurn s = .next s := by
  unfold ciphTurn; rw [h]; rfl

/-- R32, U15: an idle unit's turn changes nothing. -/
theorem digTurn_idle {s : State} (h : s.dig.phase = .idle) : digTurn s = .next s := by
  unfold digTurn; rw [h]; rfl

/-- R15: a CIPH turn leaves the operand latches. -/
theorem ciphTurn_latches {s t : State} (h : ciphTurn s = .next t) :
    t.ciph.blk = s.ciph.blk ∧ t.ciph.key = s.ciph.key ∧ t.ciph.dir = s.ciph.dir := by
  unfold ciphTurn ciphUop unitTurn at h
  cases hp : s.ciph.phase <;> simp only [hp] at h
  case keyload =>
    rw [exec_cKeyload] at h
    generalize roundKeys _ _ = v at h
    simp only [Host.Outcome.next.injEq] at h
    rw [← h]; exact ⟨rfl, rfl, rfl⟩
  case whiten | ark =>
    rw [exec_cArk] at h
    obtain ⟨p, r, e, -⟩ := afterArk_cases { s.ciph with st := addRoundKey s.ciph.st s.ciph.rk s.ciph.round }
    rw [e] at h; cases h; exact ⟨rfl, rfl, rfl⟩
  all_goals
    first
      | rw [exec_cLoadst] at h | rw [exec_cSub] at h | rw [exec_cShift] at h | rw [exec_cIsub] at h
      | rw [exec_cIshift] at h | rw [exec_cOut] at h | skip
    simp only [Host.Outcome.next.injEq] at h
    rw [← h]; exact ⟨rfl, rfl, rfl⟩

/-- R17: a DIG turn leaves the operand latches. -/
theorem digTurn_latches {s t : State} (h : digTurn s = .next t) : t.dig.msg = s.dig.msg ∧ t.dig.len = s.dig.len := by
  unfold digTurn digUop unitTurn at h
  cases hp : s.dig.phase <;> simp only [hp] at h
  case padgen =>
    cases hf : fitsBuffer s.params.padCap (paddedLength s.dig.len.toNat)
    · rw [exec_dPadgen_fails hf] at h; cases h; exact ⟨rfl, rfl⟩
    · rw [exec_dPadgen_fits hf] at h; cases h; exact ⟨rfl, rfl⟩
  case step =>
    rw [exec_dStep] at h
    obtain ⟨p, j, e, -⟩ := afterStep_cases { s.dig with work := subRound s.dig.x s.dig.i s.dig.work }
    rw [e] at h; cases h; exact ⟨rfl, rfl⟩
  case addback =>
    rw [exec_dAddback] at h
    obtain ⟨p, n, e, -⟩ := afterAddback_cases { s.dig with acc := s.dig.acc.add s.dig.work }
    rw [e] at h; cases h; exact ⟨rfl, rfl⟩
  case loadx => rw [exec_dLoadx] at h; cases h; exact ⟨rfl, rfl⟩
  case render => rw [exec_dRender] at h; cases h; exact ⟨rfl, rfl⟩
  all_goals (cases h; exact ⟨rfl, rfl⟩)

/-- R66, R67: the operations a command port can name. -/
theorem decodeOn_ok {p : CmdPort} {b : Byte} {i : Instr} (h : decodeOn p b = .ok i) :
    (p = .cCmd ∧ (i = .enc ∨ i = .dec)) ∨ (p = .dCmd ∧ i = .hash) := by
  unfold decodeOn at h
  split at h
  · rename_i j _
    cases p <;> cases j <;> simp [Instr.wfOn] at h <;> subst h <;> simp
  · cases h

/-- R66, R67: a command write that answers a next state is an issue step. -/
theorem writeCommand_next {p : CmdPort} {b : Byte} {s t : State} (h : writeCommand p b s = .next t) :
    (p = .cCmd ∧ ∃ dir, issueCiph dir s = .next t) ∨ (p = .dCmd ∧ issueDig s = .next t) := by
  unfold writeCommand at h
  split at h
  · rename_i i hi
    rcases decodeOn_ok hi with ⟨hp, rfl | rfl⟩ | ⟨hp, rfl⟩
    · exact .inl ⟨hp, _, h⟩
    · exact .inl ⟨hp, _, h⟩
    · exact .inr ⟨hp, h⟩
  · cases h

/-- R177, R180: what a host turn that answers a next state can have done. -/
theorem hostTurn_cases {s t : State} (h : hostTurn s = .next t) :
    (s.host.queue = [] ∧ t = s) ∨
    (∃ a rest, s.host.queue = a :: rest ∧
      (((a ≠ .reset ∧ ∃ p hs n, t = ((s.setPorts p).setHost hs).setDraws { s.draws with reads := n })) ∨
       (∃ b dir, a = .writeCmd .cCmd b ∧ issueCiph dir (s.setHost { s.host with queue := rest }) = .next t) ∨
       (∃ b, a = .writeCmd .dCmd b ∧ issueDig (s.setHost { s.host with queue := rest }) = .next t) ∨
       (a = .reset ∧ t = resetBlock (s.setHost { s.host with queue := rest })))) := by
  unfold hostTurn at h
  split at h
  · exact .inl ⟨‹_›, by simpa using h.symm⟩
  · rename_i a rest hq
    refine .inr ⟨a, rest, hq, ?_⟩
    cases a with
    | writeCmd p b =>
      rcases writeCommand_next h with ⟨rfl, dir, hd⟩ | ⟨rfl, hd⟩
      · exact .inr (.inl ⟨b, dir, rfl, hd⟩)
      · exact .inr (.inr (.inl ⟨b, rfl, hd⟩))
    | reset => exact .inr (.inr (.inr ⟨rfl, by simpa [hostMove] using h.symm⟩))
    | driveCiph b k =>
      simp only [hostMove, Host.Outcome.next.injEq] at h
      exact .inl ⟨by simp, { s.ports with cBlockIn := b, cKeyIn := k }, { s.host with queue := rest }, s.draws.reads, h.symm⟩
    | driveDig m l =>
      simp only [hostMove, Host.Outcome.next.injEq] at h
      exact .inl ⟨by simp, { s.ports with dMsgIn := m, dLenIn := l }, { s.host with queue := rest }, s.draws.reads, h.symm⟩
    | readCStatus =>
      simp only [hostMove, Host.Outcome.next.injEq] at h
      exact .inl ⟨by simp, s.ports, t.host, s.draws.reads, by rw [← h]; rfl⟩
    | readDStatus =>
      simp only [hostMove, Host.Outcome.next.injEq] at h
      exact .inl ⟨by simp, s.ports, t.host, s.draws.reads, by rw [← h]; rfl⟩
    | readCBlockOut =>
      simp only [hostMove, Host.Outcome.next.injEq] at h
      refine .inl ⟨by simp, s.ports, t.host, t.draws.reads, ?_⟩
      rw [← h]; unfold readBlockOut; split <;> rfl
    | readDHexOut =>
      simp only [hostMove, Host.Outcome.next.injEq] at h
      refine .inl ⟨by simp, s.ports, t.host, t.draws.reads, ?_⟩
      rw [← h]; unfold readHexOut; split <;> rfl

/-- Taking the turn changes the schedule and the count of turns drawn only. -/
theorem takeTurn_state (s : State) : ∃ l n, (takeTurn s).2 = (s.setSchedule l).setDraws { s.draws with turns := n } := by
  unfold takeTurn
  split
  · rename_i rest _
    exact ⟨rest, s.draws.turns, rfl⟩
  · exact ⟨s.schedule, s.draws.turns + 1, rfl⟩

/-- R10: a step with a scheduled mover is a turn of that agent. -/
theorem step_scheduled {s : State} {a : Agent} {rest : List Agent} (h : s.schedule = a :: rest) :
    step s = agentTurn a (s.setSchedule rest) := by
  simp [step, takeTurn, h]

/-- R10: a step is a turn of one of the agents, in the state with the turn used up. -/
theorem step_cases {s t : State} (h : step s = .next t) :
    ∃ l n, hostTurn ((s.setSchedule l).setDraws { s.draws with turns := n }) = .next t ∨
      ciphTurn ((s.setSchedule l).setDraws { s.draws with turns := n }) = .next t ∨
      digTurn ((s.setSchedule l).setDraws { s.draws with turns := n }) = .next t := by
  obtain ⟨l, n, hs⟩ := takeTurn_state s
  refine ⟨l, n, ?_⟩
  unfold step at h
  rw [hs] at h
  cases ha : (takeTurn s).1 <;> rw [ha] at h
  · exact .inl h
  · exact .inr (.inl h)
  · exact .inr (.inr h)

/-- R10, U15: with no move of the host pending a step answers a next state, still with none pending, and a unit that was idle
is idle. -/
theorem step_quiet {s : State} (h : s.host.queue = []) : ∃ t, step s = .next t ∧ t.host.queue = [] ∧
    (s.ciph.phase = .idle → t.ciph.phase = .idle) ∧ (s.dig.phase = .idle → t.dig.phase = .idle) := by
  obtain ⟨l, n, e⟩ := takeTurn_state s
  unfold step
  rw [e]
  generalize hu : (s.setSchedule l).setDraws { s.draws with turns := n } = u
  have hq : u.host.queue = [] := by rw [← hu]; exact h
  have hc : s.ciph = u.ciph := by rw [← hu]; rfl
  have hd : s.dig = u.dig := by rw [← hu]; rfl
  rw [hc, hd]
  cases (takeTurn s).1 with
  | host => exact ⟨u, by simp only [agentTurn, hostTurn, hq], hq, id, id⟩
  | ciph =>
    obtain ⟨c, m, e⟩ := ciphTurn_next u
    exact ⟨_, e, hq, fun hi => by rw [Host.Outcome.next.inj (e.symm.trans (ciphTurn_idle hi))]; exact hi, id⟩
  | dig =>
    obtain ⟨d, e⟩ := digTurn_next u
    exact ⟨_, e, hq, id, fun hi => by rw [Host.Outcome.next.inj (e.symm.trans (digTurn_idle hi))]; exact hi⟩

/-- A run whose first step answers a next state goes on from that state. -/
theorem run_next (n : Nat) {s t : State} (h : step s = .next t) :
    Host.Core.run Sys2Proof.core (n + 1) s = Host.Core.run Sys2Proof.core n t := by
  have key : ∀ (M : Host.Core) (a b : M.State), M.step a = .next b → M.run (n + 1) a = M.run n b := by
    intro M a b hab
    simp [Host.Core.run, hab]
  exact key Sys2Proof.core s t h

end Sys2Proof.Machine
end

