-- ==== Sys2Proof/Tests/Slice0.lean ====
section
/-! SUPPORT. The model's own tests, with expected results from spec/95_test_vectors.md and the spec's other examples, and one
witness for each statement that has hypotheses. -/

open Sys2Proof Sys2Proof.Machine Sys2Proof.Statements

namespace Sys2Proof.Tests

/-- Whether a result is a next state with a property. -/
def nextWith (r : Result) (p : State → Bool) : Bool :=
  match r with
  | .next t => p t
  | .fault _ => false
  | .refused _ => false

/-- Whether a result is a given refusal. -/
def refusedWith (r : Result) (e : Refusal) : Bool :=
  match r with
  | .next _ => false
  | .fault _ => false
  | .refused x => x = e

/-- The configuration RK_TAIL_ZERO with the default tables and PAD_CAP of 64 bytes. -/
def params0 : Params := { defaultParams with tail := .fixed zeroTail, padCap := .blocks 0 }

/-- The block of V-C5. -/
def block5 : Vector Byte 16 :=
  #v[0x00, 0x11, 0x22, 0x33, 0x44, 0x55, 0x66, 0x77, 0x88, 0x99, 0xaa, 0xbb, 0xcc, 0xdd, 0xee, 0xff]

/-- The key of V-C5. -/
def key5 : Vector Byte 16 :=
  #v[0x00, 0x01, 0x02, 0x03, 0x04, 0x05, 0x06, 0x07, 0x08, 0x09, 0x0a, 0x0b, 0x0c, 0x0d, 0x0e, 0x0f]

/-- The result of V-C5. -/
def out5 : Vector Byte 16 :=
  #v[0x36, 0xb8, 0xc6, 0x79, 0x5f, 0x50, 0x6c, 0x7a, 0xdd, 0xf3, 0x27, 0x2c, 0x5c, 0xdc, 0xcc, 0x53]

/-- The state after reset with those parameters and P1's port values. -/
def start : State :=
  { State.reset with
    params := params0
    ports := { cBlockIn := 0xffeeddccbbaa99887766554433221100, cKeyIn := 0x0f0e0d0c0b0a09080706050403020100,
               dMsgIn := [0x61, 0x62, 0x63], dLenIn := 3 } }

/-- That state with a CIPH unit in the middle of a command. -/
def ciphAt (p : CPhase) (r : Fin 11) (dir : Bool) (st : Vector Byte 16) : State :=
  start.setCiph { resetCiph with phase := p, round := r, dir := dir, busy := true, blk := block5, key := key5, st := st,
                                 rk := roundKeys key5 zeroTail }

/-- That state with a DIG unit in the middle of a command. -/
def digAt (p : DPhase) (blk : Nat) (i : Fin 64) (msg : List Byte) : State :=
  let len := BitVec.ofNat 64 msg.length
  start.setDig { resetDig with phase := p, busy := true, blk := blk, i := i, msg := msg, len := len,
                               bitlen := bitLength len, plen := paddedLength len.toNat, padbuf := padMessage msg len }

/-- The message "abc". -/
def abc : List Byte := [0x61, 0x62, 0x63]

/-! ### WellFormed refuses ill-formed terms -/

theorem test_wf_hash_is_no_ciph_command : Instr.wfOn .cCmd .hash = false := by decide
theorem test_wf_enc_is_no_dig_command : Instr.wfOn .dCmd .enc = false := by decide
theorem test_wf_uop_is_no_command : Instr.wfOn .cCmd .cSub = false ∧ Instr.wfOn .dCmd .dStep = false := by decide
theorem test_wf_message_length : messageWf [0x61, 0x62] 3 = false ∧ messageWf abc 3 = true := by decide
theorem test_wf_tables : ({ params0 with invSbox := defaultSbox } : Params).wf = false := by decide +kernel
theorem test_wf_default_tables : start.params.wf = true := by decide +kernel

/-! ### Decoding, the words written out bit by bit from R62 and R63 -/

theorem test_decode_commands : decode 0b0000_0000 = .ok .enc ∧ decode 0b0000_0001 = .ok .dec ∧ decode 0b0001_0000 = .ok .hash := by
  decide
theorem test_decode_ciph : decode 0b1_000_0000 = .ok .cLoadst ∧ decode 0b1_000_0001 = .ok .cKeyload ∧
    decode 0b1_000_0010 = .ok .cArk ∧ decode 0b1_000_0011 = .ok .cSub ∧ decode 0b1_000_0100 = .ok .cShift ∧
    decode 0b1_000_0101 = .ok .cIsub ∧ decode 0b1_000_0110 = .ok .cIshift ∧ decode 0b1_000_0111 = .ok .cOut := by decide
theorem test_decode_dig : decode 0b1_001_0000 = .ok .dPadgen ∧ decode 0b1_001_0001 = .ok .dInit ∧
    decode 0b1_001_0010 = .ok .dLoadx ∧ decode 0b1_001_0011 = .ok .dStep ∧ decode 0b1_001_0100 = .ok .dAddback ∧
    decode 0b1_001_0101 = .ok .dRender := by decide
/-- R64, R63: the first and last values of each unused range. -/
theorem test_decode_unused : [0x02, 0x0f, 0x11, 0x20, 0x7f].map decode = List.replicate 5 (.error .reservedCommand) ∧
    [0x88, 0x8f, 0x96, 0x9f, 0xa0, 0xff].map decode = List.replicate 6 (.error .unusedIdentifier) := by decide
theorem test_table_word : decodeTableWord 8 0x93 = some .dStep ∧ decodeTableWord 8 0x42 = none := by decide

/-! ### The issue steps, V-E1 -/

theorem test_enc_issue : nextWith (step (start.withFetchWord 8 0x00)) (fun t =>
    t.ciph.dir = false ∧ t.ciph.busy = true ∧ t.ciph.done = false ∧ t.ciph.phase = .loadst ∧ t.ciph.blk = block5 ∧
    t.ciph.key = key5) = true := by decide +kernel
theorem test_enc_refused_when_busy :
    refusedWith (exec .enc (ciphAt .sub 1 false block5)) (.issueWhileBusy .cCmd) = true := by decide +kernel
theorem test_dec_issue : nextWith (step (start.withFetchWord 8 0x01)) (fun t =>
    t.ciph.dir = true ∧ t.ciph.busy = true ∧ t.ciph.phase = .loadst ∧ t.ciph.blk = block5) = true := by decide +kernel
theorem test_reserved_writes : [(CmdPort.cCmd, 0x02), (.cCmd, 0x10), (.cCmd, 0xff), (.dCmd, 0x00), (.dCmd, 0x11)].map (fun x =>
    refusedWith (step (start.hostNext (.writeCmd x.1 x.2))) (.reservedCommand x.1 x.2)) = List.replicate 5 true := by decide +kernel
theorem test_hash_issue : nextWith (step (start.withFetchWord 8 0x10)) (fun t =>
    t.dig.busy = true ∧ t.dig.done = false ∧ t.dig.phase = .padgen ∧ t.dig.msg = abc ∧ t.dig.len = 3) = true := by decide +kernel
theorem test_hash_length_mismatch :
    refusedWith (exec .hash (start.setPorts { start.ports with dLenIn := 4 })) .lengthMismatch = true := by decide +kernel

/-! ### Micro-operations of CIPH, V-C1 to V-C6 -/

theorem test_loadst : nextWith (step ((ciphAt .idle 0 false out5).withFetchWord 8 0x80)) (fun t =>
    t.ciph.st = block5 ∧ t.ciph.st[5] = 0x55 ∧ t.ciph.phase = .keyload) = true := by decide +kernel
/-- V-C4. -/
theorem test_keyload : nextWith (exec .cKeyload (ciphAt .keyload 3 true block5)) (fun t =>
    t.ciph.rk[15] = 0x0f ∧ t.ciph.rk[16] = 0x00 ∧ t.ciph.rk[175] = 0x00 ∧ t.ciph.round = 10 ∧ t.ciph.phase = .whiten) = true := by
  decide +kernel
/-- V-C3, first row. -/
theorem test_ark_key : nextWith (exec .cArk (ciphAt .whiten 0 false block5)) (fun t =>
    t.ciph.st = #v[0x00, 0x10, 0x20, 0x30, 0x40, 0x50, 0x60, 0x70, 0x80, 0x90, 0xa0, 0xb0, 0xc0, 0xd0, 0xe0, 0xf0] ∧
    t.ciph.phase = .sub ∧ t.ciph.round = 1) = true := by decide +kernel
/-- V-C3, second row, in the DEC round before the last. -/
theorem test_ark_zero_slice : nextWith (exec .cArk (ciphAt .ark 1 true block5)) (fun t =>
    t.ciph.st = block5 ∧ t.ciph.phase = .ishift ∧ t.ciph.round = 0) = true := by decide +kernel
/-- V-C1, first row. -/
theorem test_sub : nextWith (exec .cSub (ciphAt .sub 1 false key5)) (fun t =>
    t.ciph.st = #v[0x63, 0x7c, 0x77, 0x7b, 0xf2, 0x6b, 0x6f, 0xc5, 0x30, 0x01, 0x67, 0x2b, 0xfe, 0xd7, 0xab, 0x76]) = true := by
  decide +kernel
/-- V-S5, the column of the inverse table. -/
theorem test_isub : nextWith (exec .cIsub (ciphAt .isub 9 true
    #v[0x00, 0x01, 0x10, 0x53, 0x63, 0x7f, 0x80, 0xc9, 0xff, 0x16, 0xdd, 0xcd, 0xd2, 0xfb, 0xed, 0xca])) (fun t =>
    t.ciph.st = #v[0x52, 0x09, 0x7c, 0x50, 0x00, 0x6b, 0x3a, 0x12, 0x7d, 0xff, 0xc9, 0x80, 0x7f, 0x63, 0x53, 0x10]) = true := by
  decide +kernel
/-- V-C2, first row. -/
theorem test_shift : nextWith (exec .cShift (ciphAt .shift 1 false key5)) (fun t =>
    t.ciph.st = #v[0x00, 0x05, 0x0a, 0x0f, 0x04, 0x09, 0x0e, 0x03, 0x08, 0x0d, 0x02, 0x07, 0x0c, 0x01, 0x06, 0x0b]) = true := by
  decide +kernel
/-- V-C2, first row. -/
theorem test_ishift : nextWith (exec .cIshift (ciphAt .ishift 9 true key5)) (fun t =>
    t.ciph.st = #v[0x00, 0x0d, 0x0a, 0x07, 0x04, 0x01, 0x0e, 0x0b, 0x08, 0x05, 0x02, 0x0f, 0x0c, 0x09, 0x06, 0x03]) = true := by
  decide +kernel
theorem test_out : nextWith (exec .cOut (ciphAt .out 10 false out5)) (fun t =>
    t.ciph.out = out5 ∧ t.ciph.st = out5 ∧ t.ciph.status = 0b10 ∧ t.ciph.phase = .idle) = true := by decide +kernel
/-- V-C5 and V-C6, at two bytes that the row shift moves. -/
theorem test_enc_dec_results : (encBlock params0 (roundKeys key5 zeroTail) block5)[1] = 0xb8 ∧
    (encBlock params0 (roundKeys key5 zeroTail) block5)[15] = 0x53 ∧
    (decBlock params0 (roundKeys key5 zeroTail) out5)[1] = 0x11 := by decide +kernel
/-- V-C9 and V-C10, at one byte: the ramp tail, and the round trip that fails. -/
theorem test_enc_ramp_tail : (encBlock params0 (.ofFn fun j => BitVec.ofNat 8 j.val) block5)[2] = 0xf5 ∧
    (decBlock params0 (roundKeys key5 zeroTail)
        #v[0x01, 0x91, 0xf5, 0x8b, 0x8c, 0x64, 0xf5, 0x22, 0x04, 0x05, 0xa7, 0xac, 0x66, 0x1d, 0x61, 0x97])[2] = 0xc0 := by
  decide +kernel

/-! ### Micro-operations of DIG -/

/-- R113's example. -/
theorem test_padgen : nextWith (exec .dPadgen (digAt .padgen 0 0 abc)) (fun t =>
    t.dig.padbuf = abc ++ [0x80] ++ List.replicate 52 0x00 ++ [0x18, 0, 0, 0, 0, 0, 0, 0] ∧ t.dig.plen = 64 ∧
    t.dig.bitlen = 0x18 ∧ t.dig.phase = .init) = true := by decide +kernel
/-- V-D8: with PAD_CAP = 64 a message of 55 bytes fits and one of 56 does not. -/
theorem test_padgen_capacity :
    nextWith (exec .dPadgen (digAt .padgen 0 0 (List.replicate 55 0x61))) (fun t => t.dig.phase = .init) = true ∧
    nextWith (exec .dPadgen (digAt .padgen 0 0 (List.replicate 56 0x61))) (fun t =>
      t.dig.status = 0b01110 ∧ t.dig.phase = .idle) = true := by decide +kernel
/-- V-D9's lengths: the bit length wraps. -/
theorem test_bit_length : bitLength 3 = 0x18 ∧ bitLength (BitVec.ofNat 64 (2 ^ 61)) = 0 ∧
    bitLength (BitVec.ofNat 64 (2 ^ 61 + 1)) = 8 := by decide
theorem test_init : nextWith (exec .dInit (digAt .init 7 0 abc)) (fun t =>
    t.dig.acc = { a := 0x67452301, b := 0xefcdab89, c := 0x98badcfe, d := 0x10325476 } ∧ t.dig.blk = 0 ∧
    t.dig.phase = .loadx) = true := by decide +kernel
/-- R115's example. -/
theorem test_loadx : nextWith (exec .dLoadx (digAt .loadx 0 9 abc)) (fun t =>
    t.dig.x[0] = 0x80636261 ∧ t.dig.x[1] = 0 ∧ t.dig.x[14] = 0x18 ∧ t.dig.i = 0 ∧ t.dig.phase = .step) = true := by
  decide +kernel

/-- DIG in a sub-round with given working registers and the message words of the empty message. -/
def stepAt (i : Fin 64) (w : Quad) : State :=
  start.setDig { resetDig with phase := .step, busy := true, i := i, plen := 64, work := w,
                               x := blockWords (padMessage [] 0) 0 }

/-- R116's example. -/
theorem test_step_first : nextWith (exec .dStep (stepAt 0 { a := 0x67452301, b := 0xefcdab89, c := 0x98badcfe, d := 0x10325476 }))
    (fun t => t.dig.work = { a := 0x10325476, b := 0xa5202774, c := 0xefcdab89, d := 0x98badcfe } ∧ t.dig.i = 1 ∧
      t.dig.phase = .step) = true := by decide +kernel
theorem test_step_last : nextWith (exec .dStep (stepAt 63 ivQuad)) (fun t => t.dig.i = 63 ∧ t.dig.phase = .addback) = true := by
  decide +kernel
/-- V-A4, the indices of the first and last sub-rounds of each stage, and the rotation amounts. -/
theorem test_step_operands : ([0, 15, 16, 31, 32, 47, 48, 63] : List (Fin 64)).map (fun i => (messageIndex i).val) =
      [0, 15, 1, 12, 5, 2, 0, 9] ∧
    ([0, 3, 17, 30, 34, 47, 49, 63] : List (Fin 64)).map rotAmount = [7, 22, 9, 14, 16, 23, 10, 21] := by decide
/-- V-A3, first and third rows, and V-A2. -/
theorem test_stage_functions : stageF 0xefcdab89 0x98badcfe 0x10325476 = 0x98badcfe ∧
    stageG 0xffffffff 0x12345678 0x9abcdef0 = 0x9abcdef8 ∧ stageH 0xffffffff 0x12345678 0x9abcdef0 = 0x77777777 ∧
    stageI 0xffffffff 0x12345678 0x9abcdef0 = 0xedcba987 ∧ stageI 0 0 0 = 0xffffffff := by decide
theorem test_rotl32 : rotl32 0x80000001 1 = 3 ∧ rotl32 0x12345678 23 = 0x3c091a2b ∧ rotl32 1 31 = 0x80000000 := by decide
/-- R122's example: the end of the empty message. -/
theorem test_addback : nextWith (exec .dAddback (start.setDig { resetDig with
      phase := .addback, busy := true, plen := 64, acc := ivQuad,
      work := { a := 0x7246fad3, b := 0x14e45506, c := 0xff4ea3eb, d := 0x6e10a476 } })) (fun t =>
    t.dig.acc = { a := 0xd98c1dd4, b := 0x04b2008f, c := 0x980980e9, d := 0x7e42f8ec } ∧ t.dig.phase = .render) = true := by
  decide +kernel
/-- V-R1, as character codes. -/
theorem test_render : nextWith (exec .dRender (start.setDig { resetDig with
      phase := .render, busy := true, acc := { a := 0x01234567, b := 0x89abcdef, c := 0xfedcba98, d := 0x76543210 } })) (fun t =>
    t.dig.hex.toList = "67452301efcdab8998badcfe10325476".toList.map (fun c => BitVec.ofNat 8 c.toNat) ∧
    t.dig.status = 0b00010 ∧ t.dig.phase = .idle) = true := by decide +kernel
/-- V-D5: the words of the second block, and the accumulators that the blocks share. -/
theorem test_second_block : nextWith (exec .dLoadx (digAt .loadx 1 0 (List.replicate 56 0x61))) (fun t =>
      t.dig.x[0] = 0 ∧ t.dig.x[13] = 0 ∧ t.dig.x[14] = 0x1c0) = true ∧
    nextWith (exec .dAddback (digAt .addback 0 63 (List.replicate 56 0x61))) (fun t =>
      t.dig.blk = 1 ∧ t.dig.phase = .loadx) = true := by decide +kernel

/-! ### Witnesses: states and operands that meet the hypotheses of each statement -/

theorem witness_ReservedCommandIsRefused :
    ((CmdPort.cCmd = .cCmd → (0x02 : Byte) ≠ 0x00 ∧ (0x02 : Byte) ≠ 0x01) ∧ (CmdPort.cCmd = .dCmd → (0x02 : Byte) ≠ 0x10)) ∧
    ((CmdPort.dCmd = .cCmd → (0x00 : Byte) ≠ 0x00 ∧ (0x00 : Byte) ≠ 0x01) ∧ (CmdPort.dCmd = .dCmd → (0x00 : Byte) ≠ 0x10)) := by
  decide
theorem witness_StepRunsTheWrittenCommand : decodeOn .cCmd 0x01 = .ok .dec ∧ decodeOn .dCmd 0x10 = .ok .hash ∧
    (Instr.enc.wfOn .cCmd || Instr.enc.wfOn .dCmd) = true := by decide
theorem witness_StepRunsThePhasesOperation :
    ((ciphAt .sub 1 false block5).setSchedule [.ciph]).schedule = .ciph :: [] ∧
      ciphUop ((ciphAt .sub 1 false block5).setSchedule [.ciph]).ciph.phase = some .cSub ∧
    ((digAt .init 0 0 abc).setSchedule [.dig, .host]).schedule = .dig :: [.host] ∧
      digUop ((digAt .init 0 0 abc).setSchedule [.dig, .host]).dig.phase = some .dInit ∧
    (start.setSchedule [.ciph]).schedule = .ciph :: [] ∧ (start.setSchedule [.ciph]).ciph.phase = .idle ∧
    (start.setSchedule [.dig]).schedule = .dig :: [] ∧ (start.setSchedule [.dig]).dig.phase = .idle ∧
    (start.setSchedule [.host]).schedule = .host :: [] ∧ (start.setSchedule [.host]).host.queue = [] ∧
    start.schedule = [] := ⟨rfl, rfl, rfl, rfl, rfl, rfl, rfl, rfl, rfl, rfl, rfl⟩
theorem witness_PlacedMicroOperationRuns : (Instr.cOut.wfOn .cCmd || Instr.cOut.wfOn .dCmd) = false ∧
    (Instr.dPadgen.wfOn .cCmd || Instr.dPadgen.wfOn .dCmd) = false := by decide
theorem witness_CipherIssueLatchesOperands : cipherCommand .enc false ∧ cipherCommand .dec true ∧ start.ciph.busy = false ∧
    (ciphAt .sub 1 false block5).ciph.busy = true ∧ (0x02 : Byte) ≠ 0x00 ∧ (0x02 : Byte) ≠ 0x01 :=
  ⟨.inl ⟨rfl, rfl⟩, .inr ⟨rfl, rfl⟩, rfl, rfl, by decide, by decide⟩
theorem witness_HashIssueLatchesMessage : start.dig.busy = false ∧ start.ports.dMsgIn.length = start.ports.dLenIn.toNat ∧
    (digAt .init 0 0 abc).dig.busy = true ∧ (0x11 : Byte) ≠ 0x10 := ⟨rfl, rfl, rfl, by decide⟩
theorem witness_ContractBreachesAreRefused : (ciphAt .out 10 false block5).ciph.busy = true ∧
    (digAt .render 0 0 abc).dig.busy = true ∧ (0x02 : Byte) ≠ 0x00 ∧ (0x02 : Byte) ≠ 0x01 ∧ (0x0f : Byte) ≠ 0x10 ∧
    start.dig.busy = false ∧
    (start.setPorts { start.ports with dLenIn := 4 }).ports.dMsgIn.length ≠
      (start.setPorts { start.ports with dLenIn := 4 }).ports.dLenIn.toNat ∧
    start.ciph.done = false ∧ (start.dig.done = false ∨ start.dig.err = true) ∧
    ((start.setDig resetDig.flagsFailed).dig.done = false ∨ (start.setDig resetDig.flagsFailed).dig.err = true) := by
  decide +kernel
theorem witness_KeyloadLoadsKeyAndTail : start.params.tail = .fixed zeroTail ∧ State.reset.params.tail = .drawn := ⟨rfl, rfl⟩
theorem witness_ArkXorsTheRoundSlice : 1 ≤ (1 : Fin 11).val ∧ 1 ≤ (10 : Fin 11).val := by decide
theorem witness_IsubLooksUpInvSbox : start.params.wf = true := test_wf_default_tables
theorem witness_CiphSequencerFollowsItsTable :
    [ciphAt .idle 0 false block5, ciphAt .loadst 0 false block5, ciphAt .keyload 0 false block5, ciphAt .keyload 0 true block5,
      ciphAt .whiten 0 false block5, ciphAt .whiten 10 true block5, ciphAt .sub 1 false block5, ciphAt .shift 1 false block5,
      ciphAt .ishift 9 true block5, ciphAt .isub 9 true block5, ciphAt .ark 9 false block5, ciphAt .ark 10 false block5,
      ciphAt .ark 1 true block5, ciphAt .ark 0 true block5, ciphAt .out 10 false block5].map
        (fun s => (s.ciph.phase, s.ciph.dir, s.ciph.round.val)) =
    [(.idle, false, 0), (.loadst, false, 0), (.keyload, false, 0), (.keyload, true, 0), (.whiten, false, 0), (.whiten, true, 10),
      (.sub, false, 1), (.shift, false, 1), (.ishift, true, 9), (.isub, true, 9), (.ark, false, 9), (.ark, false, 10),
      (.ark, true, 1), (.ark, true, 0), (.out, false, 10)] := by decide
theorem witness_PaddedLengthIsSmallest : 128 % 64 = 0 ∧ 56 + 9 ≤ 128 := by decide

/-- PAD_CAP = 64 holds one block: 55 bytes fit and 56 do not. -/
theorem fits_55 : ¬ tooLong start.params 55 := by
  rintro ⟨n, h, hn⟩
  cases h
  exact absurd hn (by decide)

theorem fits_abc : ¬ tooLong start.params 3 := by
  rintro ⟨n, h, hn⟩
  cases h
  exact absurd hn (by decide)

theorem too_long_56 : tooLong start.params 56 := ⟨0, rfl, by decide⟩

theorem witness_PadgenWritesThePaddedMessage :
    tooLong (digAt .padgen 0 0 (List.replicate 56 0x61)).params (digAt .padgen 0 0 (List.replicate 56 0x61)).dig.len ∧
    (digAt .padgen 0 0 (List.replicate 55 0x61)).dig.msg.length = (digAt .padgen 0 0 (List.replicate 55 0x61)).dig.len.toNat ∧
    ¬ tooLong (digAt .padgen 0 0 (List.replicate 55 0x61)).params (digAt .padgen 0 0 (List.replicate 55 0x61)).dig.len :=
  ⟨too_long_56, rfl, fits_55⟩
theorem witness_PadgenRaisesAllocationFailure :
    tooLong (digAt .padgen 0 0 (List.replicate 56 0x61)).params (digAt .padgen 0 0 (List.replicate 56 0x61)).dig.len ∧
    ¬ tooLong (digAt .padgen 0 0 (List.replicate 55 0x61)).params (digAt .padgen 0 0 (List.replicate 55 0x61)).dig.len ∧
    ({ start with params := { params0 with padCap := .unbounded } } : State).params.padCap = .unbounded ∧
    (Instr.dInit ≠ .dPadgen ∧ ∃ t, exec .dInit (start.setDig resetDig.flagsFailed) = .next t ∧ t.dig.err = true) :=
  ⟨too_long_56, fits_55, rfl, by decide, _, exec_dInit _, rfl⟩
theorem witness_InitLoadsTheIv : ∃ t, digTurn (digAt .padgen 0 0 abc) = .next t ∧ t.dig.phase = .init :=
  ⟨_, exec_dPadgen_fits (s := digAt .padgen 0 0 abc) rfl, rfl⟩
theorem witness_LoadxAssemblesTheBlock : (digAt .loadx 0 0 abc).dig.padbuf[60]? = some 0 ∧
    (digAt .loadx 0 0 abc).dig.padbuf[61]? = some 0 ∧ (digAt .loadx 0 0 abc).dig.padbuf[62]? = some 0 ∧
    (digAt .loadx 0 0 abc).dig.padbuf[63]? = some 0 := by decide +kernel
theorem witness_StepDoesOneSubRound : (9 : Fin 16).val = stageWord (63 : Fin 64).val ∧ (1 : Fin 16).val = stageWord (16 : Fin 64).val := by
  decide
theorem witness_StageFunctionsBitByBit : 0 < 32 ∧ 31 < 32 := by decide
theorem witness_RotationBitByBit : (1 ≤ 1 ∧ 1 ≤ 31) ∧ (1 ≤ 31 ∧ 31 ≤ 31) ∧ 31 < 32 := by decide
theorem witness_RenderWritesLowercaseHex :
    0xd4 = ((#v[0xd98c1dd4, 0, 0, 0] : Vector Word 4)[(0 : Fin 4)].toNat / 256 ^ (0 : Fin 4).val) % 256 := by decide
theorem witness_DigSequencerFollowsItsTable :
    [digAt .idle 0 0 abc, digAt .padgen 0 0 abc, digAt .init 0 0 abc, digAt .loadx 0 0 abc, digAt .step 0 62 abc,
      digAt .step 0 63 abc, digAt .addback 0 0 (List.replicate 56 0x61), digAt .addback 0 0 abc, digAt .render 0 0 abc].map
        (fun s => (s.dig.phase, s.dig.blk, s.dig.i.val, blockCount s.dig.plen)) =
    [(.idle, 0, 0, 1), (.padgen, 0, 0, 1), (.init, 0, 0, 1), (.loadx, 0, 0, 1), (.step, 0, 62, 1), (.step, 0, 63, 1),
      (.addback, 0, 0, 2), (.addback, 0, 0, 1), (.render, 0, 0, 1)] ∧
    ¬ tooLong (digAt .padgen 0 0 abc).params (digAt .padgen 0 0 abc).dig.len ∧
    tooLong (digAt .padgen 0 0 (List.replicate 56 0x61)).params (digAt .padgen 0 0 (List.replicate 56 0x61)).dig.len :=
  ⟨by decide +kernel, fits_abc, too_long_56⟩

/-- DIG after a HASH that failed, and after one that succeeded. -/
def failedDig : Dig := { resetDig.flagsFailed with msg := List.replicate 56 0x61, len := 56 }
def doneDig : Dig := { resetDig.flagsDone with msg := abc, len := 3, hex := digestHex abc 3 }

/-- CIPH after an ENC. -/
def doneCiph : Ciph :=
  { resetCiph.flagsDone with blk := block5, key := key5, rk := roundKeys key5 zeroTail,
                             out := encBlock params0 (roundKeys key5 zeroTail) block5 }

/-- Both units with valid results. -/
def doneState : State := (start.setCiph doneCiph).setDig doneDig

theorem doneCiph_inv : doneCiph.Inv params0 := by
  refine ⟨rfl, fun _ => ⟨fun i => roundKeys_key _ _ i, ?_⟩⟩
  show encBlock params0 (roundKeys key5 zeroTail) block5 = if false then _ else encBlock params0 (roundKeys key5 zeroTail) block5
  rw [if_neg (by decide)]

theorem doneDig_inv : doneDig.Inv params0 :=
  ⟨⟨.inr (.inr (.inl (by decide))), by decide⟩, fun _ => ⟨rfl, show if false = true then _ else _ from ⟨rfl, rfl⟩⟩⟩

theorem failedDig_inv : failedDig.Inv params0 :=
  ⟨⟨.inr (.inr (.inr (by decide))), by decide⟩, fun _ => ⟨rfl, show if true = true then _ else _ from rfl⟩⟩

theorem doneState_inv : doneState.Inv := ⟨doneCiph_inv, doneDig_inv⟩

theorem witness_ReadsGiveFlagsAndResults : doneState.ciph.done = true ∧ doneState.dig.done = true ∧ doneState.dig.err = false :=
  ⟨rfl, rfl, rfl⟩
/-- A state with the same results and flags in which ST and the accumulators hold something else. -/
def otherState : State := (doneState.setCiph (doneCiph.setSt block5)).setDig (doneDig.setAcc ivQuad)

theorem witness_ReadsRevealNothingInternal :
    HostAction.readCBlockOut ∈ [HostAction.readCStatus, .readDStatus, .readCBlockOut, .readDHexOut] ∧
    doneState.host = otherState.host ∧ doneState.draws = otherState.draws ∧
    doneState.ciph.status = otherState.ciph.status ∧ doneState.dig.status = otherState.dig.status ∧
    (doneState.ciph.done = true → doneState.ciph.out = otherState.ciph.out) ∧
    (doneState.dig.done = true → doneState.dig.err = false → doneState.dig.hex = otherState.dig.hex) :=
  ⟨by decide, rfl, rfl, rfl, rfl, fun _ => rfl, fun _ _ => rfl⟩
theorem witness_NoStepWritesATable : ∃ t, step (start.setSchedule [.ciph]) = .next t := ⟨_, rfl⟩
/-- The four refusals. -/
theorem witness_OnlyContractBreachesStop :
    step (start.hostNext (.writeCmd .cCmd 0x10)) = .refused (.reservedCommand .cCmd 0x10) ∧
    step ((ciphAt .out 10 false block5).hostNext (.writeCmd .cCmd 0x01)) = .refused (.issueWhileBusy .cCmd) ∧
    step ((digAt .render 0 0 abc).hostNext (.writeCmd .dCmd 0x10)) = .refused (.issueWhileBusy .dCmd) ∧
    step ((start.setPorts { start.ports with dLenIn := 4 }).hostNext (.writeCmd .dCmd 0x10)) = .refused .lengthMismatch :=
  ⟨rfl, rfl, rfl, rfl⟩
theorem witness_OnlyIssueStepsWriteLatches :
    (∃ t, step (start.hostNext (.writeCmd .dCmd 0x10)) = .next t) ∧
    ∀ rest, (start.hostNext (.writeCmd .dCmd 0x10)).host.queue ≠ .reset :: rest := ⟨⟨_, rfl⟩, by simp [State.hostNext]⟩
theorem witness_ResultStaysUntilNextIssue : (doneState.setSchedule [.ciph]).Inv ∧
    (∃ t, step (doneState.setSchedule [.ciph]) = .next t) ∧
    (∀ rest, (doneState.setSchedule [.ciph]).host.queue ≠ .reset :: rest) ∧ (doneState.setSchedule [.ciph]).ciph.done = true ∧
    (∀ b rest, (doneState.setSchedule [.ciph]).host.queue ≠ .writeCmd .cCmd b :: rest) ∧
    (doneState.setSchedule [.ciph]).dig.done = true ∧
    (∀ b rest, (doneState.setSchedule [.ciph]).host.queue ≠ .writeCmd .dCmd b :: rest) :=
  ⟨doneState_inv, ⟨_, (step_scheduled (s := doneState.setSchedule [.ciph]) rfl).trans (ciphTurn_idle (s := doneState.setSchedule []) rfl)⟩, fun _ h => (by cases h), rfl, fun _ _ h => (by cases h), rfl,
    fun _ _ h => (by cases h)⟩

/-- A state of a safe run: CIPH is done and DIG is about to load the block of a message. -/
def loadxState : State :=
  ((digAt .loadx 0 0 abc).setCiph doneCiph).setDig ((digAt .loadx 0 0 abc).dig.setAcc ivQuad)

theorem loadxState_inv : loadxState.Inv :=
  ⟨doneCiph_inv, ⟨.inr (.inl (by decide)), by decide⟩, ⟨rfl, ⟨rfl, rfl, rfl, rfl⟩, by decide, rfl⟩⟩

theorem witness_BufferReadsStayInside : loadxState.dig.Inv loadxState.params ∧ loadxState.dig.phase = .loadx :=
  ⟨loadxState_inv.2, rfl⟩
theorem witness_ValidHexIsLowercaseDigits : doneState.Inv ∧ doneState.dig.done = true ∧ doneState.dig.err = false :=
  ⟨doneState_inv, rfl, rfl⟩
theorem witness_EveryStepKeepsTheInvariant : (loadxState.setSchedule [.dig]).Inv ∧
    ∃ t, step (loadxState.setSchedule [.dig]) = .next t :=
  ⟨loadxState_inv, _, (step_scheduled (s := loadxState.setSchedule [.dig]) rfl).trans (exec_dLoadx (loadxState.setSchedule []))⟩
theorem witness_FinalStateHoldsTheResults :
    (doneState.Inv ∧ doneState.final ∧ doneState.ciph.done = true ∧ doneState.dig.done = true ∧ doneState.dig.err = false) ∧
    ((start.setDig failedDig).dig.Inv params0 ∧ (start.setDig failedDig).final ∧ (start.setDig failedDig).dig.done = true ∧
      (start.setDig failedDig).dig.err = true) :=
  ⟨⟨doneState_inv, ⟨rfl, rfl, rfl, rfl⟩, rfl, rfl, rfl⟩, failedDig_inv, ⟨rfl, rfl, rfl, rfl⟩, rfl, rfl⟩
theorem witness_CipherCommandsRunTheirSequence : start.ciph.busy = false := rfl
theorem witness_HashRunsItsSequence : start.dig.busy = false ∧ start.ports.dMsgIn.length = start.ports.dLenIn.toNat ∧
    ¬ tooLong start.params start.ports.dLenIn ∧ 1 = (start.ports.dLenIn.toNat + 8) / 64 + 1 := ⟨rfl, rfl, fits_abc, rfl⟩
theorem witness_CipherCommandComputesItsResult : cipherCommand .dec true ∧ start.ciph.busy = false ∧
    (∀ a ∈ [Agent.dig] ++ List.replicate 34 Agent.ciph, a ≠ .host) ∧ ([Agent.dig] ++ List.replicate 34 Agent.ciph).count .ciph = 34 ∧
    ([Agent.dig] ++ List.replicate 34 Agent.ciph).getLast? = some .ciph := ⟨.inr ⟨rfl, rfl⟩, rfl, by decide, by decide, by decide⟩
theorem witness_HashComputesItsResult : start.dig.busy = false ∧ start.ports.dMsgIn.length = start.ports.dLenIn.toNat ∧
    ¬ tooLong start.params start.ports.dLenIn ∧ (∀ a ∈ [Agent.ciph] ++ List.replicate 69 Agent.dig, a ≠ .host) ∧
    ([Agent.ciph] ++ List.replicate 69 Agent.dig).count .dig = 3 + 66 * ((start.ports.dLenIn.toNat + 8) / 64 + 1) :=
  ⟨rfl, rfl, fits_abc, by decide, by decide⟩

/-- The ports present 56 bytes. -/
def start56 : State := start.setPorts { start.ports with dMsgIn := List.replicate 56 0x61, dLenIn := 56 }

theorem witness_FailedHashEndsAndRecovers : start56.dig.busy = false ∧
    start56.ports.dMsgIn.length = start56.ports.dLenIn.toNat ∧ tooLong start56.params start56.ports.dLenIn :=
  ⟨rfl, rfl, too_long_56⟩
theorem witness_InterleavingDoesNotMatter : List.Perm [Agent.ciph, Agent.dig, Agent.dig] [Agent.dig, Agent.ciph, Agent.dig] ∧
    ∀ a ∈ [Agent.ciph, Agent.dig, Agent.dig], a ≠ .host := ⟨.swap Agent.dig Agent.ciph [Agent.dig], by decide⟩
/-- A state after reset and one with other registers, at the same ports. -/
theorem witness_StaleRegistersDoNotMatter :
    ((Agent.ciph = .ciph ∧ (Instr.enc = .enc ∨ Instr.enc = .dec) ∧ 34 = 34) ∧
      (Agent.dig = .dig ∧ Instr.hash = .hash ∧ start.ports.dMsgIn.length = start.ports.dLenIn.toNat ∧
        ¬ tooLong start.params start.ports.dLenIn ∧ 69 = 3 + 66 * ((start.ports.dLenIn.toNat + 8) / 64 + 1))) ∧
    start.ciph.busy = false ∧ doneState.ciph.busy = false ∧ start.dig.busy = false ∧ doneState.dig.busy = false ∧
    start.ports = doneState.ports ∧ start.params = doneState.params ∧ start.draws = doneState.draws :=
  ⟨⟨⟨rfl, .inl rfl, rfl⟩, rfl, rfl, rfl, fits_abc, rfl⟩, rfl, rfl, rfl, rfl, rfl, rfl, rfl⟩
theorem witness_RoundTripNeedsOneTail : start.params.wf = true := test_wf_default_tables
/-- V-C11: two blocks that differ in byte 5 alone agree where byte 0 of the result looks. -/
theorem witness_EncLanesAreIndependent : block5[tableSr10[(0 : Fin 16)]] = (block5.set 5 0x54)[tableSr10[(0 : Fin 16)]] ∧
    ∀ r : Fin 11, sliceByte (roundKeys key5 zeroTail) r (shiftIndex^[10 - r.val] 0) =
      sliceByte (roundKeys key5 zeroTail) r (shiftIndex^[10 - r.val] 0) := ⟨rfl, fun _ => rfl⟩

/-- Two instances, in both of which CIPH has the next turn. -/
def twoInstances : Platform 1 := #v[start.setSchedule [.ciph], (digAt .init 0 0 abc).setSchedule [.ciph]]

theorem witness_InstancesAreIndependent : (0 : Fin 2) ≠ 1 ∧
    ∃ q r, twoInstances.stepAt 0 = .next q ∧ Platform.stepAt q 1 = .next r := ⟨by decide, _, _, rfl, rfl⟩

/-- A safe state in which each unit has one step left, and the turn for it. -/
def lastSteps : State :=
  { start with
    ciph := { doneCiph with phase := .out, round := 10, busy := true, done := false, st := doneCiph.out }
    dig := { (digAt .render 0 0 abc).dig with acc := chain (padMessage abc 3) 1 }
    schedule := [.ciph, .dig] }

theorem lastSteps_inv : lastSteps.Inv := by
  refine ⟨⟨⟨rfl, rfl, rfl⟩, doneCiph_inv.2 rfl⟩, ⟨⟨.inr (.inl ?_), ?_⟩, ⟨rfl, ⟨rfl, rfl, rfl, rfl⟩, rfl⟩⟩⟩
  · decide
  · exact ⟨fun _ h => (by cases h), fun _ => rfl⟩

/-- The state after a step, where there is one. -/
def advance (s : State) : State :=
  match step s with
  | .next t => t
  | .fault _ => s
  | .refused _ => s

theorem advance_of {s t : State} (h : step s = .next t) : advance s = t := by
  simp only [advance, h]

/-- The run from there: the two last steps, and idle turns for ever. -/
def lastRun (n : Nat) : State := advance^[n] lastSteps

theorem lastRun_succ (n : Nat) : lastRun (n + 1) = advance (lastRun n) := Function.iterate_succ_apply' _ _ _

theorem lastRun_quiet (n : Nat) : (lastRun n).host.queue = [] := by
  induction n with
  | zero => rfl
  | succ n ih =>
    obtain ⟨t, h, hq, -⟩ := step_quiet ih
    rw [lastRun_succ, advance_of h]
    exact hq

/-- That run after the last step of CIPH. -/
def afterOut : State :=
  { lastSteps with
    ciph := { lastSteps.ciph with out := lastSteps.ciph.st, busy := false, done := true, phase := .idle }
    schedule := [.dig] }

theorem lastRun_one : lastRun 1 = afterOut :=
  advance_of ((step_scheduled (s := lastSteps) rfl).trans (exec_cOut (lastSteps.setSchedule [.dig])))

theorem lastRun_two : (lastRun 2).ciph.phase = .idle ∧ (lastRun 2).dig.phase = .idle := by
  rw [lastRun_succ, lastRun_one,
    advance_of ((step_scheduled (s := afterOut) rfl).trans (exec_dRender (afterOut.setSchedule [])))]
  exact ⟨rfl, rfl⟩

theorem lastRun_idle (n : Nat) : (lastRun (n + 2)).ciph.phase = .idle ∧ (lastRun (n + 2)).dig.phase = .idle := by
  induction n with
  | zero => exact lastRun_two
  | succ n ih =>
    obtain ⟨t, h, -, hc, hd⟩ := step_quiet (lastRun_quiet (n + 2))
    rw [lastRun_succ, advance_of h]
    exact ⟨hc ih.1, hd ih.2⟩

theorem lastRun_fair : FairRun lastRun := by
  refine ⟨fun n => ?_, fun a n h => ?_⟩
  · obtain ⟨t, ht, -⟩ := step_quiet (lastRun_quiet n)
    rw [lastRun_succ, advance_of ht]
    exact ht
  · have hn := h (n + 2) (by omega)
    cases a with
    | host => exact hn.elim
    | ciph => exact absurd (lastRun_idle n).1 hn
    | dig => exact absurd (lastRun_idle n).2 hn

theorem witness_IssuedCommandsReachDone : FairRun lastRun ∧ (lastRun 0).Inv ∧ (lastRun 0).ciph.busy = true ∧
    (lastRun 0).dig.busy = true := ⟨lastRun_fair, lastSteps_inv, rfl, rfl⟩

end Sys2Proof.Tests
end

section
/-! PROOFS, what a turn does. Each unit after one turn as a function of that unit alone, tied to `ciphTurn` and `digTurn`
by one equation each, so that the proofs about runs and about the invariant speak of one unit at a time (R10, R52). -/

namespace Sys2Proof.Machine

/-! ### The sequencer after C.ARK, row by row (R25) -/

theorem afterArk_whiten_enc {c : Ciph} (hp : c.phase = .whiten) (hd : c.dir = false) :
    afterArk c = (c.setRound 1).setPhase .sub := by
  unfold afterArk; simp only [hp, hd]

theorem afterArk_whiten_dec {c : Ciph} (hp : c.phase = .whiten) (hd : c.dir = true) :
    afterArk c = (c.setRound 9).setPhase .ishift := by
  unfold afterArk; simp only [hp, hd]

theorem afterArk_enc_next {c : Ciph} (hp : c.phase = .ark) (hd : c.dir = false) (h : c.round.val < 10) :
    afterArk c = (c.setRound ⟨c.round.val + 1, by omega⟩).setPhase .sub := by
  unfold afterArk; simp only [hp, hd, h, dite_true]

theorem afterArk_enc_last {c : Ciph} (hp : c.phase = .ark) (hd : c.dir = false) (h : c.round.val = 10) :
    afterArk c = c.setPhase .out := by
  unfold afterArk; simp [hp, hd, h]

theorem afterArk_dec_next {c : Ciph} (hp : c.phase = .ark) (hd : c.dir = true) (h : 0 < c.round.val) :
    afterArk c = (c.setRound ⟨c.round.val - 1, by omega⟩).setPhase .ishift := by
  unfold afterArk; simp only [hp, hd, h, if_true]

theorem afterArk_dec_last {c : Ciph} (hp : c.phase = .ark) (hd : c.dir = true) (h : c.round.val = 0) :
    afterArk c = c.setPhase .out := by
  unfold afterArk; simp [hp, hd, h]

/-! ### The sequencer after D.STEP and D.ADDBACK, row by row (R32) -/

theorem afterStep_next {d : Dig} (h : d.i.val < 63) : afterStep d = (d.setI ⟨d.i.val + 1, by omega⟩).setPhase .step := by
  simp only [afterStep, h, dite_true]

theorem afterStep_last {d : Dig} (h : d.i.val = 63) : afterStep d = d.setPhase .addback := by
  simp [afterStep, h]

theorem afterAddback_next {d : Dig} (h : d.blk + 1 < blockCount d.plen) :
    afterAddback d = (d.setBlk (d.blk + 1)).setPhase .loadx := by
  simp only [afterAddback, h, if_true]

theorem afterAddback_last {d : Dig} (h : blockCount d.plen ≤ d.blk + 1) : afterAddback d = d.setPhase .render := by
  simp only [afterAddback, Nat.not_lt.mpr h, if_false]

/-! ### CIPH -/

/-- The CIPH unit after a turn in which C.KEYLOAD, if it runs, takes this tail. -/
def Ciph.afterTurn (p : Params) (tail : Vector Byte 160) (c : Ciph) : Ciph :=
  match c.phase with
  | .idle => c
  | .loadst => (c.setSt c.blk).setPhase .keyload
  | .keyload => ((c.setRk (roundKeys c.key tail)).setRound (if c.dir then 10 else 0)).setPhase .whiten
  | .whiten | .ark => afterArk (c.setSt (addRoundKey c.st c.rk c.round))
  | .sub => (c.setSt (substitute p.sbox c.st)).setPhase .shift
  | .shift => (c.setSt (shiftRows c.st)).setPhase .ark
  | .ishift => (c.setSt (invShiftRows c.st)).setPhase .isub
  | .isub => (c.setSt (substitute p.invSbox c.st)).setPhase .ark
  | .out => ((c.setOut c.st).flagsDone).setPhase .idle

/-- The draw counters after a turn of a CIPH unit: C.KEYLOAD draws a tail (R86). -/
def Ciph.drawsAfterTurn (c : Ciph) (n : Draws) : Draws :=
  if c.phase = .keyload then n.nextTail else n

/-- A turn of CIPH on the unit and the draw counters, which is all that it changes. -/
def ciphAdvance (p : Params) (x : Ciph × Draws) : Ciph × Draws :=
  (x.1.afterTurn p (tailOf p.tail x.2), x.1.drawsAfterTurn x.2)

/-- R25: a turn of CIPH, as one equation. -/
theorem ciphTurn_eq (s : State) : ciphTurn s =
    .next ((s.setCiph (ciphAdvance s.params (s.ciph, s.draws)).1).setDraws (ciphAdvance s.params (s.ciph, s.draws)).2) := by
  cases hp : s.ciph.phase <;>
    simp only [ciphTurn, ciphAdvance, Ciph.afterTurn, Ciph.drawsAfterTurn, hp, ciphUop, unitTurn, exec] <;> rfl

/-! ### DIG -/

/-- The DIG unit after a turn. -/
def Dig.afterTurn (p : Params) (d : Dig) : Dig :=
  match d.phase with
  | .idle => d
  | .padgen =>
    if fitsBuffer p.padCap (paddedLength d.len.toNat) then
      (d.setPadded (bitLength d.len) (paddedLength d.len.toNat) (padMessage d.msg d.len)).setPhase .init
    else raiseAllocationFailure d
  | .init => ((d.setAcc ivQuad).setBlk 0).setPhase .loadx
  | .loadx => (((d.setX (blockWords d.padbuf d.blk)).setWork d.acc).setI 0).setPhase .step
  | .step => afterStep (d.setWork (subRound d.x d.i d.work))
  | .addback => afterAddback (d.setAcc (d.acc.add d.work))
  | .render => ((d.setHex (renderHex d.acc)).flagsDone).setPhase .idle

/-- R32: a turn of DIG, as one equation. -/
theorem digTurn_eq (s : State) : digTurn s = .next (s.setDig (s.dig.afterTurn s.params)) := by
  cases hp : s.dig.phase <;> simp only [digTurn, Dig.afterTurn, hp, digUop, unitTurn, exec] <;> rfl

end Sys2Proof.Machine
end

section
/-! PROOFS, the invariant of CIPH. A turn of the unit keeps it, one phase at a time (R26, R91, R92, R178). -/

namespace Sys2Proof.Machine

/-! ### What the words of the invariant do not depend on -/

@[simp] theorem Ciph.keyInRk_setPhase (c : Ciph) (q : CPhase) : (c.setPhase q).keyInRk ↔ c.keyInRk := Iff.rfl
@[simp] theorem Ciph.keyInRk_setRound (c : Ciph) (r : Fin 11) : (c.setRound r).keyInRk ↔ c.keyInRk := Iff.rfl
@[simp] theorem Ciph.keyInRk_setSt (c : Ciph) (v : Vector Byte 16) : (c.setSt v).keyInRk ↔ c.keyInRk := Iff.rfl
@[simp] theorem Ciph.keyInRk_setOut (c : Ciph) (v : Vector Byte 16) : (c.setOut v).keyInRk ↔ c.keyInRk := Iff.rfl
@[simp] theorem Ciph.keyInRk_flagsDone (c : Ciph) : c.flagsDone.keyInRk ↔ c.keyInRk := Iff.rfl

@[simp] theorem Ciph.afterRounds_setPhase (p : Params) (c : Ciph) (q : CPhase) (n : Nat) :
    (c.setPhase q).afterRounds p n = c.afterRounds p n := rfl
@[simp] theorem Ciph.afterRounds_setRound (p : Params) (c : Ciph) (r : Fin 11) (n : Nat) :
    (c.setRound r).afterRounds p n = c.afterRounds p n := rfl
@[simp] theorem Ciph.afterRounds_setSt (p : Params) (c : Ciph) (v : Vector Byte 16) (n : Nat) :
    (c.setSt v).afterRounds p n = c.afterRounds p n := rfl

@[simp] theorem Ciph.result_setPhase (p : Params) (c : Ciph) (q : CPhase) : (c.setPhase q).result p = c.result p := rfl
@[simp] theorem Ciph.result_setSt (p : Params) (c : Ciph) (v : Vector Byte 16) : (c.setSt v).result p = c.result p := rfl
@[simp] theorem Ciph.result_setOut (p : Params) (c : Ciph) (v : Vector Byte 16) : (c.setOut v).result p = c.result p := rfl
@[simp] theorem Ciph.result_flagsDone (p : Params) (c : Ciph) : c.flagsDone.result p = c.result p := rfl

/-! ### Rounds of the command in the latches -/

/-- R89, R90: the whitening is the state after no round. -/
theorem Ciph.afterRounds_zero (p : Params) (c : Ciph) :
    addRoundKey c.blk c.rk (if c.dir then 10 else 0) = c.afterRounds p 0 := by
  unfold Ciph.afterRounds; cases c.dir <;> rfl

/-- R89: the C.ARK of a round of ENC completes round C_ROUND. -/
theorem Ciph.afterRounds_enc (p : Params) {c : Ciph} (hd : c.dir = false) (h : 1 ≤ c.round.val) :
    addRoundKey (shiftRows (substitute p.sbox (c.afterRounds p (c.round.val - 1)))) c.rk c.round =
      c.afterRounds p c.round.val := by
  simp only [Ciph.afterRounds, hd, Bool.false_eq_true, if_false]
  exact encRounds_round p c.rk c.blk c.round h

/-- R90: the C.ARK of a round of DEC completes round 10 - C_ROUND. -/
theorem Ciph.afterRounds_dec (p : Params) {c : Ciph} (hd : c.dir = true) (h : c.round.val ≤ 9) :
    addRoundKey (substitute p.invSbox (invShiftRows (c.afterRounds p (9 - c.round.val)))) c.rk c.round =
      c.afterRounds p (10 - c.round.val) := by
  simp only [Ciph.afterRounds, hd, if_true]
  exact decRounds_round p c.rk c.blk c.round h

/-- R89, R90: ten rounds are the result. -/
theorem Ciph.afterRounds_ten (p : Params) (c : Ciph) : c.afterRounds p 10 = c.result p := rfl

/-! ### CIPH -/

/-- R26: an idle unit that is not done meets the invariant whatever else it holds. -/
theorem Ciph.inv_of_idle {p : Params} {c : Ciph} (hp : c.phase = .idle) (hb : c.busy = false) (hd : c.done = false) :
    c.Inv p := by
  simp [Ciph.Inv, Ciph.sequencerOk, Ciph.dataOk, hp, hb, hd]

/-- R66: so does a unit just issued to. -/
theorem Ciph.inv_of_loadst {p : Params} {c : Ciph} (hp : c.phase = .loadst) (hb : c.busy = true) (hd : c.done = false) :
    c.Inv p := by
  simp [Ciph.Inv, Ciph.sequencerOk, Ciph.dataOk, hp, hb, hd]

/-- R26: a unit that is not idle is busy and not done. -/
theorem Ciph.flags_of_running {c : Ciph} (hp : c.phase ≠ .idle) (hs : c.sequencerOk) : c.busy = true ∧ c.done = false := by
  unfold Ciph.sequencerOk at hs
  cases hq : c.phase <;> simp only [hq] at hs
  case idle => exact absurd hq hp
  case loadst | keyload => exact hs
  all_goals
    obtain ⟨hb, hd, -⟩ := hs
    exact ⟨hb, hd⟩

/-- R91, R92: the whitening keeps the invariant: no round is complete after it. -/
theorem Ciph.afterTurn_inv_whiten {p : Params} {c : Ciph} (tail : Vector Byte 160) (hp : c.phase = .whiten) (h : c.Inv p) :
    (c.afterTurn p tail).Inv p := by
  simp only [Ciph.Inv, Ciph.sequencerOk, Ciph.dataOk, hp] at h
  obtain ⟨⟨hb, hn, hr⟩, hk, hst⟩ := h
  have hw : addRoundKey c.st c.rk c.round = c.afterRounds p 0 := by rw [hst, hr, Ciph.afterRounds_zero]
  simp only [Ciph.afterTurn, hp, hw]
  cases hd : c.dir
  · rw [afterArk_whiten_enc (by simpa using hp) (by simpa using hd)]
    simp [Ciph.Inv, Ciph.sequencerOk, Ciph.dataOk, hb, hn, hk, hd]
  · rw [afterArk_whiten_dec (by simpa using hp) (by simpa using hd)]
    simp [Ciph.Inv, Ciph.sequencerOk, Ciph.dataOk, hb, hn, hk, hd]

/-- R91, R92: the C.ARK of a round keeps the invariant: one more round is complete after it. -/
theorem Ciph.afterTurn_inv_ark {p : Params} {c : Ciph} (tail : Vector Byte 160) (hp : c.phase = .ark) (h : c.Inv p) :
    (c.afterTurn p tail).Inv p := by
  simp only [Ciph.Inv, Ciph.sequencerOk, Ciph.dataOk, hp] at h
  obtain ⟨⟨hb, hn, hr⟩, hk, hst⟩ := h
  have hround := c.round.isLt
  cases hd : c.dir <;> simp only [hd, Bool.false_eq_true, if_false, if_true] at hr hst
  case false =>
    have hw : addRoundKey c.st c.rk c.round = c.afterRounds p c.round.val := by rw [hst, Ciph.afterRounds_enc p hd hr]
    simp only [Ciph.afterTurn, hp, hw]
    by_cases hl : c.round.val < 10
    · rw [afterArk_enc_next (by simpa using hp) (by simpa using hd) (by simpa using hl)]
      simp [Ciph.Inv, Ciph.sequencerOk, Ciph.dataOk, hb, hn, hk, hd]
    · have ht : c.round.val = 10 := by omega
      rw [afterArk_enc_last (by simpa using hp) (by simpa using hd) (by simpa using ht), ht, Ciph.afterRounds_ten]
      simp [Ciph.Inv, Ciph.sequencerOk, Ciph.dataOk, hb, hn, hk, hd, Fin.ext_iff, ht]
  case true =>
    have hw : addRoundKey c.st c.rk c.round = c.afterRounds p (10 - c.round.val) := by
      rw [hst, Ciph.afterRounds_dec p hd hr]
    simp only [Ciph.afterTurn, hp, hw]
    by_cases hl : 0 < c.round.val
    · rw [afterArk_dec_next (by simpa using hp) (by simpa using hd) (by simpa using hl)]
      simp [Ciph.Inv, Ciph.sequencerOk, Ciph.dataOk, hb, hn, hk, hd,
        show 9 - (c.round.val - 1) = 10 - c.round.val by omega]
      omega
    · have ht : c.round.val = 0 := by omega
      rw [afterArk_dec_last (by simpa using hp) (by simpa using hd) (by simpa using ht), ht, Ciph.afterRounds_ten]
      simp [Ciph.Inv, Ciph.sequencerOk, Ciph.dataOk, hb, hn, hk, hd, Fin.ext_iff, ht]

/-- R26, R91, R92, R178: a turn of CIPH keeps the unit's invariant, whatever tail C.KEYLOAD draws. -/
theorem Ciph.afterTurn_inv {p : Params} {c : Ciph} (tail : Vector Byte 160) (h : c.Inv p) : (c.afterTurn p tail).Inv p := by
  cases hp : c.phase
  case whiten => exact Ciph.afterTurn_inv_whiten tail hp h
  case ark => exact Ciph.afterTurn_inv_ark tail hp h
  case idle => simpa only [Ciph.afterTurn, hp] using h
  case keyload =>
    simp only [Ciph.Inv, Ciph.sequencerOk, Ciph.dataOk, hp] at h
    have hk : ∀ i, sliceByte (roundKeys c.key tail) 0 i = c.key[i] := roundKeys_key c.key tail
    simpa [Ciph.afterTurn, hp, Ciph.Inv, Ciph.sequencerOk, Ciph.dataOk, Ciph.keyInRk, hk] using h
  all_goals
    simp only [Ciph.Inv, Ciph.sequencerOk, Ciph.dataOk, hp] at h
    simp [Ciph.afterTurn, hp, Ciph.Inv, Ciph.sequencerOk, Ciph.dataOk, h]

end Sys2Proof.Machine
end

section
/-! PROOFS, the invariant of DIG and of the machine. A turn of DIG keeps the unit's invariant, one phase at a time; so do the
issue steps, the RESET event and the other moves of the host; so every step does (R33, R124, R178). -/

namespace Sys2Proof.Machine

/-! ### DIG -/

/-- R33, R34: the legal combinations of the flags, flag by flag. -/
theorem Dig.statusLegal_iff (d : Dig) : d.statusLegal ↔
    (d.err = true → d.done = true) ∧ (d.busy = true → d.done = false) ∧ d.cause = if d.err then 1 else 0 := by
  unfold Dig.statusLegal Dig.status
  generalize d.cause = c
  cases d.busy <;> cases d.done <;> cases d.err <;> revert c <;> decide

/-- R31, R33: what the flags are while the unit is not idle. -/
theorem Dig.sequencerOk_running {d : Dig} (hp : d.phase ≠ .idle) :
    d.sequencerOk ↔ d.busy = true ∧ d.done = false ∧ d.err = false ∧ d.cause = 0 := by
  simp only [Dig.sequencerOk, Dig.statusLegal_iff, hp, ne_eq, not_false_eq_true, iff_true]
  cases d.busy <;> cases d.done <;> cases d.err <;> simp

/-- R31, R33: what they are while it is idle. -/
theorem Dig.sequencerOk_idle {d : Dig} (hp : d.phase = .idle) :
    d.sequencerOk ↔ d.busy = false ∧ (d.err = true → d.done = true) ∧ d.cause = if d.err then 1 else 0 := by
  simp only [Dig.sequencerOk, Dig.statusLegal_iff, hp, ne_eq, not_true_eq_false, iff_false]
  cases d.busy <;> cases d.done <;> cases d.err <;> simp

/-- R33: an idle unit with clear flags meets the invariant whatever else it holds. -/
theorem Dig.inv_of_idle {p : Params} {d : Dig} (hp : d.phase = .idle) (hb : d.busy = false) (hd : d.done = false)
    (he : d.err = false) (hc : d.cause = 0) : d.Inv p := by
  simp [Dig.Inv, Dig.sequencerOk_idle hp, Dig.dataOk, hp, hb, hd, he, hc]

/-- R67: so does a unit just issued to, with a message of the stated length. -/
theorem Dig.inv_of_padgen {p : Params} {d : Dig} (hp : d.phase = .padgen) (hb : d.busy = true) (hd : d.done = false)
    (he : d.err = false) (hc : d.cause = 0) (hm : d.msg.length = d.len.toNat) : d.Inv p := by
  have hi : d.phase ≠ .idle := by simp [hp]
  simp [Dig.Inv, Dig.sequencerOk_running hi, Dig.dataOk, Dig.messageOk, hp, hb, hd, he, hc, hm]

/-- R33, R160: D.PADGEN keeps the invariant, whether the padded message fits or not. -/
theorem Dig.afterTurn_inv_padgen {p : Params} {d : Dig} (hp : d.phase = .padgen) (h : d.Inv p) : (d.afterTurn p).Inv p := by
  obtain ⟨hs, hm⟩ := h
  rw [Dig.sequencerOk_running (by simp [hp])] at hs
  simp only [Dig.dataOk, hp] at hm
  cases hf : fitsBuffer p.padCap (paddedLength d.len.toNat) <;>
    simp only [Dig.afterTurn, hp, hf, Bool.false_eq_true, if_false, if_true]
  case false =>
    refine ⟨(Dig.sequencerOk_idle rfl).mpr (by simp [raiseAllocationFailure]), ?_⟩
    simpa [raiseAllocationFailure, Dig.dataOk, Dig.messageOk, hf] using hm
  case true =>
    refine ⟨(Dig.sequencerOk_running (by simp)).mpr (by simpa using hs), ?_⟩
    simpa [Dig.dataOk, Dig.messageOk, Dig.paddedOk, hf] using hm

/-- R114, R124: D.INIT keeps the invariant: no block is compressed after it, and there is at least one. -/
theorem Dig.afterTurn_inv_init {p : Params} {d : Dig} (hp : d.phase = .init) (h : d.Inv p) : (d.afterTurn p).Inv p := by
  obtain ⟨hs, hd⟩ := h
  rw [Dig.sequencerOk_running (by simp [hp])] at hs
  simp only [Dig.dataOk, hp] at hd
  obtain ⟨hm, hbit, hlen, hbuf, hfit⟩ := hd
  have hpos : 0 < blockCount d.plen := by rw [hlen]; exact blockCount_pos _
  simp only [Dig.afterTurn, hp]
  exact ⟨(Dig.sequencerOk_running (by simp)).mpr hs, hm, ⟨hbit, hlen, hbuf, hfit⟩, hpos, rfl⟩

/-- R115, R124: D.LOADX keeps the invariant: X is the block D_BLK names, and no sub-round of it is complete. -/
theorem Dig.afterTurn_inv_loadx {p : Params} {d : Dig} (hp : d.phase = .loadx) (h : d.Inv p) : (d.afterTurn p).Inv p := by
  obtain ⟨hs, hd⟩ := h
  rw [Dig.sequencerOk_running (by simp [hp])] at hs
  simp only [Dig.dataOk, hp] at hd
  obtain ⟨hm, hpad, hb, ha⟩ := hd
  obtain ⟨x, hx⟩ : ∃ x, x = blockWords d.padbuf d.blk := ⟨_, rfl⟩
  simp only [Dig.afterTurn, hp, ← hx]
  exact ⟨(Dig.sequencerOk_running (by simp)).mpr hs, hm, hpad, hb, ha, hx, rfl⟩

/-- R116, R124: D.STEP keeps the invariant: one more sub-round is complete after it. -/
theorem Dig.afterTurn_inv_step {p : Params} {d : Dig} (hp : d.phase = .step) (h : d.Inv p) : (d.afterTurn p).Inv p := by
  obtain ⟨hs, hd⟩ := h
  rw [Dig.sequencerOk_running (by simp [hp])] at hs
  simp only [Dig.dataOk, hp] at hd
  obtain ⟨hm, hpad, hb, ha, hx, hw⟩ := hd
  have hnext : subRound d.x d.i d.work = subRounds d.x d.acc (d.i.val + 1) := by rw [hw, subRounds_round]
  simp only [Dig.afterTurn, hp]
  generalize subRound d.x d.i d.work = q at hnext
  by_cases hi : d.i.val < 63
  · rw [afterStep_next (by simpa using hi)]
    exact ⟨(Dig.sequencerOk_running (by simp)).mpr hs, hm, hpad, hb, ha, hx, hnext⟩
  · have ht : d.i.val = 63 := by omega
    rw [ht] at hnext
    rw [afterStep_last (by simpa using ht)]
    exact ⟨(Dig.sequencerOk_running (by simp)).mpr hs, hm, hpad, hb, ha, hx, hnext⟩

/-- R122, R124: D.ADDBACK keeps the invariant: one more block is compressed after it, and after the last one all are. -/
theorem Dig.afterTurn_inv_addback {p : Params} {d : Dig} (hp : d.phase = .addback) (h : d.Inv p) : (d.afterTurn p).Inv p := by
  obtain ⟨hs, hd⟩ := h
  rw [Dig.sequencerOk_running (by simp [hp])] at hs
  simp only [Dig.dataOk, hp] at hd
  obtain ⟨hm, hpad, hb, ha, hx, hw⟩ := hd
  have hnext : d.acc.add d.work = chain d.padbuf (d.blk + 1) := by rw [chain, compress, hw, hx, ha]
  simp only [Dig.afterTurn, hp]
  generalize d.acc.add d.work = q at hnext
  by_cases hl : d.blk + 1 < blockCount d.plen
  · rw [afterAddback_next (by simpa using hl)]
    exact ⟨(Dig.sequencerOk_running (by simp)).mpr hs, hm, hpad, hl, hnext⟩
  · have ht : d.blk + 1 = blockCount d.plen := by omega
    rw [ht] at hnext
    rw [afterAddback_last (by simpa using hl)]
    exact ⟨(Dig.sequencerOk_running (by simp)).mpr hs, hm, hpad, hnext⟩

/-- R123, R178: D.RENDER keeps the invariant: the digest of all blocks is the digest of the message. -/
theorem Dig.afterTurn_inv_render {p : Params} {d : Dig} (hp : d.phase = .render) (h : d.Inv p) : (d.afterTurn p).Inv p := by
  obtain ⟨hs, hm, ⟨hbit, hlen, hbuf, hfit⟩, ha⟩ : d.sequencerOk ∧ d.messageOk ∧ d.paddedOk p ∧
      d.acc = chain d.padbuf (blockCount d.plen) := by simpa only [Dig.Inv, Dig.dataOk, hp] using h
  rw [Dig.sequencerOk_running (by simp [hp])] at hs
  obtain ⟨hb, hn, he, hc⟩ := hs
  have hhex : renderHex d.acc = digestHex d.msg d.len := by rw [digestHex, ha, hlen, hbuf]
  simp only [Dig.afterTurn, hp, hhex]
  refine ⟨(Dig.sequencerOk_idle rfl).mpr (by simp [he, hc]), ?_⟩
  rw [hlen] at hfit
  simpa [Dig.dataOk, Dig.messageOk, he, hfit] using hm

/-- R31, R33, R124, R178: a turn of DIG keeps the unit's invariant. -/
theorem Dig.afterTurn_inv {p : Params} {d : Dig} (h : d.Inv p) : (d.afterTurn p).Inv p := by
  cases hp : d.phase
  case idle => simpa only [Dig.afterTurn, hp] using h
  case padgen => exact Dig.afterTurn_inv_padgen hp h
  case init => exact Dig.afterTurn_inv_init hp h
  case loadx => exact Dig.afterTurn_inv_loadx hp h
  case step => exact Dig.afterTurn_inv_step hp h
  case addback => exact Dig.afterTurn_inv_addback hp h
  case render => exact Dig.afterTurn_inv_render hp h

/-! ### The whole machine -/

theorem resetBlock_inv (s : State) : (resetBlock s).Inv :=
  ⟨Ciph.inv_of_idle rfl rfl rfl, Dig.inv_of_idle rfl rfl rfl rfl rfl⟩

theorem issueCiph_inv {dir : Bool} {s t : State} (hs : s.Inv) (h : issueCiph dir s = .next t) : t.Inv := by
  obtain ⟨-, rfl⟩ := issueCiph_next.mp h
  exact ⟨Ciph.inv_of_loadst rfl rfl rfl, hs.2⟩

theorem issueDig_inv {s t : State} (hs : s.Inv) (h : issueDig s = .next t) : t.Inv := by
  obtain ⟨-, hm, rfl⟩ := issueDig_next.mp h
  exact ⟨hs.1, Dig.inv_of_padgen rfl rfl rfl rfl rfl (messageWf_iff.mp hm)⟩

theorem ciphTurn_inv {s t : State} (hs : s.Inv) (h : ciphTurn s = .next t) : t.Inv := by
  rw [ciphTurn_eq, Host.Outcome.next.injEq] at h
  subst h
  exact ⟨Ciph.afterTurn_inv _ hs.1, hs.2⟩

theorem digTurn_inv {s t : State} (hs : s.Inv) (h : digTurn s = .next t) : t.Inv := by
  rw [digTurn_eq, Host.Outcome.next.injEq] at h
  subst h
  exact ⟨hs.1, Dig.afterTurn_inv hs.2⟩

theorem hostTurn_inv {s t : State} (hs : s.Inv) (h : hostTurn s = .next t) : t.Inv := by
  obtain ⟨-, rfl⟩ | ⟨a, rest, -, ⟨-, p, hs', n, rfl⟩ | ⟨b, dir, -, hi⟩ | ⟨b, -, hi⟩ | ⟨-, rfl⟩⟩ := hostTurn_cases h
  · exact hs
  · exact hs
  · exact issueCiph_inv (s := s.setHost { s.host with queue := rest }) hs hi
  · exact issueDig_inv (s := s.setHost { s.host with queue := rest }) hs hi
  · exact resetBlock_inv _

end Sys2Proof.Machine

namespace Sys2Proof.Proofs

open Sys2Proof.Machine

/-- Settles O44: a step is a turn of one agent, and each agent's turn keeps the invariant. -/
theorem everyStepKeepsTheInvariant : Obligations.EveryStepKeepsTheInvariant := by
  intro s t hs h
  obtain ⟨l, n, hhost | hciph | hdig⟩ := step_cases h
  · exact hostTurn_inv (s := (s.setSchedule l).setDraws { s.draws with turns := n }) hs hhost
  · exact ciphTurn_inv (s := (s.setSchedule l).setDraws { s.draws with turns := n }) hs hciph
  · exact digTurn_inv (s := (s.setSchedule l).setDraws { s.draws with turns := n }) hs hdig

end Sys2Proof.Proofs
end

section
/-! PROOFS, runs. The step of a move of the host, and the run of a schedule of unit turns, which is each unit's own turns
(R52, R177). -/

open Sys2Proof.Statements

namespace Sys2Proof.Machine

/-! ### The first step of a run: a move of the host -/

/-- R177: the host's next move is what the next step makes, with the move and the turn used up. -/
theorem step_hostNext (s : State) (a : HostAction) : step (s.hostNext a) = hostMove a s := rfl

theorem decodeOn_cipherCommand {i : Instr} {dir : Bool} (h : cipherCommand i dir) : decodeOn .cCmd (encode i) = .ok i := by
  obtain ⟨rfl, -⟩ | ⟨rfl, -⟩ := h <;> rfl

theorem exec_cipherCommand {i : Instr} {dir : Bool} (h : cipherCommand i dir) (s : State) : exec i s = issueCiph dir s := by
  obtain ⟨rfl, rfl⟩ | ⟨rfl, rfl⟩ := h <;> rfl

/-- R66: the CIPH unit after the issue step. -/
def State.issuedCiph (s : State) (dir : Bool) : Ciph :=
  ((s.ciph.latch (portLanes s.ports.cBlockIn) (portLanes s.ports.cKeyIn) dir).flagsIssued).setPhase .loadst

/-- R67: the DIG unit after the issue step. -/
def State.issuedDig (s : State) : Dig :=
  ((s.dig.latch s.ports.dMsgIn s.ports.dLenIn).flagsIssued).setPhase .padgen

/-- R66: writing a cipher command to an idle unit issues it. -/
theorem step_cipherCommand {s : State} {i : Instr} {dir : Bool} (h : cipherCommand i dir) (hb : s.ciph.busy = false) :
    step (s.hostNext (.writeCmd .cCmd (encode i))) = .next (s.setCiph (s.issuedCiph dir)) := by
  rw [step_hostNext]
  simp only [hostMove, writeCommand, decodeOn_cipherCommand h, exec_cipherCommand h]
  exact issueCiph_next.mpr ⟨hb, rfl⟩

/-- R67: writing HASH to an idle unit, with the length of the message, issues it. -/
theorem step_hashCommand {s : State} (hb : s.dig.busy = false) (hm : s.ports.dMsgIn.length = s.ports.dLenIn.toNat) :
    step (s.hostNext (.writeCmd .dCmd 0x10)) = .next (s.setDig s.issuedDig) := by
  have hdec : decodeOn .dCmd 0x10 = .ok .hash := rfl
  rw [step_hostNext]
  simp only [hostMove, writeCommand, hdec, exec_hash]
  exact issueDig_next.mpr ⟨hb, messageWf_iff.mpr hm, rfl⟩

/-! ### A run of unit turns -/

/-- R25: a step in which CIPH has the turn. -/
theorem step_ciph (s : State) (rest : List Agent) : step (s.setSchedule (.ciph :: rest)) =
    .next (((s.setCiph (ciphAdvance s.params (s.ciph, s.draws)).1).setDraws
      (ciphAdvance s.params (s.ciph, s.draws)).2).setSchedule rest) :=
  (step_scheduled (a := .ciph) (rest := rest) rfl).trans (ciphTurn_eq (s.setSchedule rest))

/-- R32: a step in which DIG has the turn. -/
theorem step_dig (s : State) (rest : List Agent) : step (s.setSchedule (.dig :: rest)) =
    .next ((s.setDig (s.dig.afterTurn s.params)).setSchedule rest) :=
  (step_scheduled (a := .dig) (rest := rest) rfl).trans (digTurn_eq (s.setSchedule rest))

/-- The state after m turns of CIPH and n turns of DIG, with `r` left of the schedule. -/
def State.afterTurns (s : State) (m n : Nat) (r : List Agent) : State :=
  { s with ciph := ((ciphAdvance s.params)^[m] (s.ciph, s.draws)).1, draws := ((ciphAdvance s.params)^[m] (s.ciph, s.draws)).2,
           dig := (Dig.afterTurn s.params)^[n] s.dig, schedule := r }

/-- R52: a run over a schedule without turns of the host is each unit's own turns, in whatever order they come. -/
theorem run_unitTurns {l : List Agent} (hl : ∀ a ∈ l, a ≠ .host) (r : List Agent) (s : State) :
    Host.Core.run Sys2Proof.core l.length (s.setSchedule (l ++ r)) = .next (s.afterTurns (l.count .ciph) (l.count .dig) r) := by
  induction l generalizing s with
  | nil => rfl
  | cons a l ih =>
    have hl' : ∀ b ∈ l, b ≠ .host := fun b hb => hl b (List.mem_cons_of_mem a hb)
    cases a with
    | host => exact absurd rfl (hl .host List.mem_cons_self)
    | ciph =>
      rw [List.length_cons, List.cons_append, run_next _ (step_ciph s (l ++ r))]
      refine (ih hl' _).trans ?_
      simp [State.afterTurns, Function.iterate_succ_apply]
    | dig =>
      rw [List.length_cons, List.cons_append, run_next _ (step_dig s (l ++ r))]
      refine (ih hl' _).trans ?_
      simp [State.afterTurns, Function.iterate_succ_apply]

end Sys2Proof.Machine
end

section
/-! PROOFS, ENC and DEC. While CIPH serves a command it keeps the invariant and the operands, and each turn takes one off the
turns left, so the end of the count is the end of the command (R91, R92). -/

open Sys2Proof.Statements

namespace Sys2Proof.Machine

/-! ### CIPH serving a command -/

/-- R91, R92: the turns that a CIPH unit has left to the end of its command. -/
def Ciph.turnsLeft (c : Ciph) : Nat :=
  match c.phase with
  | .idle => 0
  | .loadst => 34
  | .keyload => 33
  | .whiten => 32
  | .sub => 3 * (10 - c.round.val) + 4
  | .shift => 3 * (10 - c.round.val) + 3
  | .ishift => 3 * c.round.val + 4
  | .isub => 3 * c.round.val + 3
  | .ark => 3 * (if c.dir then c.round.val else 10 - c.round.val) + 2
  | .out => 1

theorem Ciph.turnsLeft_eq_zero (c : Ciph) : c.turnsLeft = 0 ↔ c.phase = .idle := by
  unfold Ciph.turnsLeft; cases c.phase <;> simp

/-- R25: C.ARK takes one off the turns left. -/
theorem Ciph.turnsLeft_afterTurn_ark {p : Params} {c : Ciph} (tail : Vector Byte 160) (hp : c.phase = .whiten ∨ c.phase = .ark) :
    (c.afterTurn p tail).turnsLeft = c.turnsLeft - 1 := by
  have hround := c.round.isLt
  have he : c.afterTurn p tail = afterArk (c.setSt (addRoundKey c.st c.rk c.round)) := by
    unfold Ciph.afterTurn; rcases hp with hp | hp <;> simp only [hp]
  rw [he]
  rcases hp with hp | hp <;> cases hd : c.dir
  · rw [afterArk_whiten_enc (by simpa using hp) (by simpa using hd)]
    simp [Ciph.turnsLeft, hp]
  · rw [afterArk_whiten_dec (by simpa using hp) (by simpa using hd)]
    simp [Ciph.turnsLeft, hp]
  · by_cases hl : c.round.val < 10
    · rw [afterArk_enc_next (by simpa using hp) (by simpa using hd) (by simpa using hl)]
      simp [Ciph.turnsLeft, hp, hd]
      omega
    · rw [afterArk_enc_last (by simpa using hp) (by simpa using hd) (by simp; omega)]
      simp [Ciph.turnsLeft, hp, hd]
      omega
  · by_cases hl : 0 < c.round.val
    · rw [afterArk_dec_next (by simpa using hp) (by simpa using hd) (by simpa using hl)]
      simp [Ciph.turnsLeft, hp, hd]
      omega
    · rw [afterArk_dec_last (by simpa using hp) (by simpa using hd) (by simp; omega)]
      simp [Ciph.turnsLeft, hp, hd]
      omega

/-- R25: a turn takes one off the turns left. -/
theorem Ciph.turnsLeft_afterTurn {p : Params} {c : Ciph} (tail : Vector Byte 160) (h : c.sequencerOk) :
    (c.afterTurn p tail).turnsLeft = c.turnsLeft - 1 := by
  cases hp : c.phase
  case whiten => exact Ciph.turnsLeft_afterTurn_ark tail (.inl hp)
  case ark => exact Ciph.turnsLeft_afterTurn_ark tail (.inr hp)
  all_goals
    simp only [Ciph.sequencerOk, hp] at h
    simp [Ciph.afterTurn, Ciph.turnsLeft, hp, h]

/-- R15: a turn leaves the operand latches. -/
theorem ciphAdvance_latches (p : Params) (x : Ciph × Draws) : (ciphAdvance p x).1.blk = x.1.blk ∧
    (ciphAdvance p x).1.key = x.1.key ∧ (ciphAdvance p x).1.dir = x.1.dir :=
  ciphTurn_latches (ciphTurn_eq { State.reset with ciph := x.1, params := p, draws := x.2 })

/-- R28, R86: whose tail a command reads, by phase. Up to C.KEYLOAD the draw counters stand at `n₀`, where they stood when the
command was issued; after it RK holds the key and the tail drawn there; at the end DONE is set. -/
def Ciph.tailOk (p : Params) (n₀ : Draws) (c : Ciph) (n : Draws) : Prop :=
  match c.phase with
  | .loadst | .keyload => n = n₀
  | .idle => c.done = true ∧ c.rk = roundKeys c.key (tailOf p.tail n₀)
  | _ => c.rk = roundKeys c.key (tailOf p.tail n₀)

theorem Ciph.tailOk_afterTurn {p : Params} {n₀ n : Draws} {c : Ciph} (h : c.tailOk p n₀ n) :
    (c.afterTurn p (tailOf p.tail n)).tailOk p n₀ (c.drawsAfterTurn n) := by
  cases hp : c.phase <;> simp only [Ciph.tailOk, hp] at h
  case whiten | ark =>
    obtain ⟨q, r, e, hq⟩ := afterArk_cases (c.setSt (addRoundKey c.st c.rk c.round))
    simp only [Ciph.afterTurn, hp, e]
    rcases hq with ⟨rfl, -⟩ | ⟨rfl, -⟩ | rfl <;> simpa [Ciph.tailOk] using h
  all_goals simp [Ciph.afterTurn, Ciph.drawsAfterTurn, Ciph.tailOk, hp, h]

/-- R15, R28: what a CIPH unit and the draw counters keep while the unit serves the command that was in the latches of `c₀`
when the counters stood at `n₀`. -/
structure Ciph.Serves (p : Params) (c₀ : Ciph) (n₀ : Draws) (x : Ciph × Draws) : Prop where
  inv : x.1.Inv p
  latches : x.1.blk = c₀.blk ∧ x.1.key = c₀.key ∧ x.1.dir = c₀.dir
  tail : x.1.tailOk p n₀ x.2

/-- R66: a unit just issued to serves the command in its latches. -/
theorem Ciph.serves_of_loadst {p : Params} {c : Ciph} (n : Draws) (hp : c.phase = .loadst) (hb : c.busy = true)
    (hd : c.done = false) : Ciph.Serves p c n (c, n) :=
  ⟨Ciph.inv_of_loadst hp hb hd, ⟨rfl, rfl, rfl⟩, by simp [Ciph.tailOk, hp]⟩

/-- R25, R28: a turn leaves the unit serving its command. -/
theorem Ciph.Serves.advance {p : Params} {c₀ : Ciph} {n₀ : Draws} {x : Ciph × Draws} (h : Ciph.Serves p c₀ n₀ x) :
    Ciph.Serves p c₀ n₀ (ciphAdvance p x) := by
  obtain ⟨hb, hk, hd⟩ := ciphAdvance_latches p x
  obtain ⟨hb₀, hk₀, hd₀⟩ := h.latches
  exact ⟨Ciph.afterTurn_inv _ h.inv, ⟨hb.trans hb₀, hk.trans hk₀, hd.trans hd₀⟩, Ciph.tailOk_afterTurn h.tail⟩

/-- R91, R92: n turns leave the unit serving its command, with n turns less left. -/
theorem Ciph.Serves.iterate {p : Params} {c₀ : Ciph} {n₀ : Draws} {x : Ciph × Draws} (h : Ciph.Serves p c₀ n₀ x) (n : Nat) :
    Ciph.Serves p c₀ n₀ ((ciphAdvance p)^[n] x) ∧ ((ciphAdvance p)^[n] x).1.turnsLeft = x.1.turnsLeft - n := by
  induction n with
  | zero => exact ⟨h, rfl⟩
  | succ n ih =>
    obtain ⟨hs, ht⟩ := ih
    rw [Function.iterate_succ_apply']
    refine ⟨hs.advance, ?_⟩
    rw [ciphAdvance, Ciph.turnsLeft_afterTurn _ hs.inv.1, ht]
    omega

/-- R178: with no turn left the command is complete, with its big-step result. -/
theorem Ciph.Serves.complete {p : Params} {c₀ : Ciph} {n₀ : Draws} {x : Ciph × Draws} (h : Ciph.Serves p c₀ n₀ x)
    (ht : x.1.turnsLeft = 0) : x.1.done = true ∧ x.1.busy = false ∧ x.1.phase = .idle ∧
      x.1.out = (if c₀.dir then decBlock else encBlock) p (roundKeys c₀.key (tailOf p.tail n₀)) c₀.blk := by
  have hp := (Ciph.turnsLeft_eq_zero _).mp ht
  obtain ⟨hs, hd⟩ := h.inv
  obtain ⟨hblk, hkey, hdir⟩ := h.latches
  have htail := h.tail
  simp only [Ciph.sequencerOk, Ciph.dataOk, Ciph.tailOk, hp] at hs hd htail
  obtain ⟨hdone, hrk⟩ := htail
  refine ⟨hdone, hs, hp, ?_⟩
  rw [(hd hdone).2, Ciph.result, hdir, hblk, hrk, hkey]
  cases c₀.dir <;> rfl

/-- R26: with turns left the unit is busy and not done. -/
theorem Ciph.Serves.busy {p : Params} {c₀ : Ciph} {n₀ : Draws} {x : Ciph × Draws} (h : Ciph.Serves p c₀ n₀ x)
    (ht : x.1.turnsLeft ≠ 0) : x.1.done = false ∧ x.1.busy = true :=
  (Ciph.flags_of_running (mt (Ciph.turnsLeft_eq_zero _).mpr ht) h.inv.1).symm

/-- R66, R91, R92: m turns of CIPH, and any of DIG, after a cipher command is issued. -/
theorem serves_afterTurns (s : State) (dir : Bool) (m n : Nat) (r : List Agent) :
    ∃ k, Ciph.Serves s.params (s.issuedCiph dir) s.draws (((s.setCiph (s.issuedCiph dir)).afterTurns m n r).ciph, k) ∧
      ((s.setCiph (s.issuedCiph dir)).afterTurns m n r).ciph.turnsLeft = 34 - m :=
  have h := (Ciph.serves_of_loadst (p := s.params) (c := s.issuedCiph dir) s.draws rfl rfl rfl).iterate m
  ⟨_, h⟩

end Sys2Proof.Machine

namespace Sys2Proof.Proofs

open Sys2Proof.Machine

/-- Settles O48: the unit serves the command through all its turns; 34 turns leave none, and 33 leave one. -/
theorem cipherCommandComputesItsResult : Obligations.CipherCommandComputesItsResult := by
  intro s i dir l hi hb hl hcount hlast
  have hstep := step_cipherCommand (s := s.setSchedule l) hi hb
  obtain ⟨l', rfl⟩ : ∃ l', l = l' ++ [.ciph] := ⟨_, (List.dropLast_append_getLast? _ hlast).symm⟩
  have hl' : ∀ a ∈ l', a ≠ .host := fun a ha => hl a (List.mem_append_left _ ha)
  constructor
  · obtain ⟨k, hs, ht⟩ := serves_afterTurns (s.setSchedule (l' ++ [.ciph])) dir 34 (List.count Agent.dig (l' ++ [.ciph])) []
    refine ⟨_, (run_next _ hstep).trans ?_, hs.complete ht⟩
    have hrun := run_unitTurns hl [] (s.setCiph (s.issuedCiph dir))
    rw [List.append_nil, hcount] at hrun
    exact hrun
  · obtain ⟨k, hs, ht⟩ := serves_afterTurns (s.setSchedule (l' ++ [.ciph])) dir 33 (l'.count .dig) [.ciph]
    refine ⟨_, ?_, hs.busy (by rw [ht]; decide)⟩
    have hrun := run_unitTurns hl' [.ciph] (s.setCiph (s.issuedCiph dir))
    have h33 : l'.count .ciph = 33 := by simpa using hcount
    rw [h33] at hrun
    rw [List.length_append]
    exact (run_next _ hstep).trans hrun

end Sys2Proof.Proofs
end

section
/-! PROOFS, HASH. While DIG serves a command it keeps the invariant and the message, and each turn takes one off the turns
left, so the end of the count is the end of the command (R124). -/

open Sys2Proof.Statements

namespace Sys2Proof.Machine

/-! ### DIG serving a command -/

/-- R160: a message fits the buffer exactly when its padded length is not larger. -/
theorem fitsBuffer_iff {p : Params} {len : BitVec 64} :
    fitsBuffer p.padCap (paddedLength len.toNat) = true ↔ ¬ tooLong p len := by
  unfold tooLong fitsBuffer paddedLength
  cases p.padCap <;> simp

/-- R124: the turns that a DIG unit has left to the end of its command. -/
def Dig.turnsLeft (p : Params) (d : Dig) : Nat :=
  match d.phase with
  | .idle => 0
  | .padgen =>
    if fitsBuffer p.padCap (paddedLength d.len.toNat) then 66 * blockCount (paddedLength d.len.toNat) + 3 else 1
  | .init => 66 * blockCount d.plen + 2
  | .loadx => 66 * (blockCount d.plen - d.blk) + 1
  | .step => 66 * (blockCount d.plen - d.blk) - d.i.val
  | .addback => 66 * (blockCount d.plen - d.blk) - 64
  | .render => 1

/-- R31: no turn is left exactly in IDLE, since D_BLK stays below NBLK. -/
theorem Dig.turnsLeft_eq_zero {p : Params} {d : Dig} (h : d.Inv p) : d.turnsLeft p = 0 ↔ d.phase = .idle := by
  obtain ⟨-, hd⟩ := h
  cases hp : d.phase <;> simp only [Dig.dataOk, hp] at hd <;> simp only [Dig.turnsLeft, hp]
  case padgen => split <;> simp
  case step =>
    obtain ⟨-, -, hb, -⟩ := hd
    have := d.i.isLt
    simp only [reduceCtorEq, iff_false]; omega
  case addback =>
    obtain ⟨-, -, hb, -⟩ := hd
    simp only [reduceCtorEq, iff_false]; omega
  all_goals simp

/-- R32: a turn takes one off the turns left. -/
theorem Dig.turnsLeft_afterTurn {p : Params} {d : Dig} (h : d.Inv p) : (d.afterTurn p).turnsLeft p = d.turnsLeft p - 1 := by
  obtain ⟨-, hd⟩ := h
  cases hp : d.phase <;> simp only [Dig.dataOk, hp] at hd <;> simp only [Dig.afterTurn, hp]
  case padgen =>
    cases hf : fitsBuffer p.padCap (paddedLength d.len.toNat) <;> simp [Dig.turnsLeft, raiseAllocationFailure, hp, hf]
  case step =>
    obtain ⟨-, -, hb, -⟩ := hd
    generalize subRound d.x d.i d.work = q
    by_cases hi : d.i.val < 63
    · rw [afterStep_next (by simpa using hi)]
      simp [Dig.turnsLeft, hp]; omega
    · rw [afterStep_last (by simp; omega)]
      simp [Dig.turnsLeft, hp]; omega
  case addback =>
    obtain ⟨-, -, hb, -⟩ := hd
    by_cases hl : d.blk + 1 < blockCount d.plen
    · rw [afterAddback_next (by simpa using hl)]
      simp [Dig.turnsLeft, hp]; omega
    · rw [afterAddback_last (by simpa using hl)]
      simp [Dig.turnsLeft, hp]; omega
  all_goals simp [Dig.turnsLeft, hp]

/-- R17: a turn leaves the operand latches. -/
theorem Dig.afterTurn_latches (p : Params) (d : Dig) : (d.afterTurn p).msg = d.msg ∧ (d.afterTurn p).len = d.len :=
  digTurn_latches (digTurn_eq { State.reset with dig := d, params := p })

/-- R33: the unit goes to IDLE with DONE set, and stays there so. -/
theorem Dig.done_afterTurn {p : Params} {d : Dig} (h : d.phase = .idle → d.done = true)
    (hi : (d.afterTurn p).phase = .idle) : (d.afterTurn p).done = true := by
  cases hp : d.phase
  case idle => simpa [Dig.afterTurn, hp] using h hp
  case padgen =>
    cases hf : fitsBuffer p.padCap (paddedLength d.len.toNat) <;>
      simp [Dig.afterTurn, raiseAllocationFailure, hp, hf] at hi ⊢
  case step =>
    obtain ⟨q, j, e, hq⟩ := afterStep_cases (d.setWork (subRound d.x d.i d.work))
    simp only [Dig.afterTurn, hp, e] at hi
    rcases hq with ⟨rfl, -⟩ | ⟨rfl, -⟩ <;> simp at hi
  case addback =>
    obtain ⟨q, n, e, hq⟩ := afterAddback_cases (d.setAcc (d.acc.add d.work))
    simp only [Dig.afterTurn, hp, e] at hi
    rcases hq with ⟨rfl, -⟩ | ⟨rfl, -⟩ <;> simp at hi
  all_goals simp [Dig.afterTurn, hp] at hi ⊢

/-- R17: what a DIG unit keeps while it serves the command that was in the latches of `d₀`. -/
structure Dig.Serves (p : Params) (d₀ d : Dig) : Prop where
  inv : d.Inv p
  latches : d.msg = d₀.msg ∧ d.len = d₀.len
  done : d.phase = .idle → d.done = true

/-- R32: a turn leaves the unit serving its command. -/
theorem Dig.Serves.advance {p : Params} {d₀ d : Dig} (h : Dig.Serves p d₀ d) : Dig.Serves p d₀ (d.afterTurn p) := by
  obtain ⟨hm, hl⟩ := Dig.afterTurn_latches p d
  obtain ⟨hm₀, hl₀⟩ := h.latches
  exact ⟨Dig.afterTurn_inv h.inv, ⟨hm.trans hm₀, hl.trans hl₀⟩, Dig.done_afterTurn h.done⟩

/-- R124: n turns leave the unit serving its command, with n turns less left. -/
theorem Dig.Serves.iterate {p : Params} {d₀ d : Dig} (h : Dig.Serves p d₀ d) (n : Nat) :
    Dig.Serves p d₀ ((Dig.afterTurn p)^[n] d) ∧ ((Dig.afterTurn p)^[n] d).turnsLeft p = d.turnsLeft p - n := by
  induction n with
  | zero => exact ⟨h, rfl⟩
  | succ n ih =>
    obtain ⟨hs, ht⟩ := ih
    rw [Function.iterate_succ_apply']
    refine ⟨hs.advance, ?_⟩
    rw [Dig.turnsLeft_afterTurn hs.inv, ht]
    omega

/-- R178: with no turn left the command is complete; a message that fits has its digest in HEX. -/
theorem Dig.Serves.complete {p : Params} {d₀ d : Dig} (h : Dig.Serves p d₀ d) (ht : d.turnsLeft p = 0)
    (hf : ¬ tooLong p d₀.len) : d.done = true ∧ d.busy = false ∧ d.err = false ∧ d.cause = 0 ∧ d.phase = .idle ∧
      d.hex = digestHex d₀.msg d₀.len := by
  have hp := (Dig.turnsLeft_eq_zero h.inv).mp ht
  obtain ⟨hs, hd⟩ := h.inv
  obtain ⟨hm, hl⟩ := h.latches
  obtain ⟨hb, -, hc⟩ := (Dig.sequencerOk_idle hp).mp hs
  simp only [Dig.dataOk, hp] at hd
  obtain ⟨-, hres⟩ := hd (h.done hp)
  have he : d.err = false := by
    by_contra he
    rw [if_pos (by simpa using he), hl, fitsBuffer_iff.mpr hf] at hres
    cases hres
  simp only [he, Bool.false_eq_true, if_false] at hres hc
  exact ⟨h.done hp, hb, he, hc, hp, by rw [hres.1, hm, hl]⟩

/-- R67: a unit just issued to, with a message that fits, serves the command in its latches, with 3 + 66 NBLK turns left. -/
theorem Dig.serves_issuedDig {s : State} (hm : s.ports.dMsgIn.length = s.ports.dLenIn.toNat)
    (hf : ¬ tooLong s.params s.ports.dLenIn) : Dig.Serves s.params s.issuedDig s.issuedDig ∧
      s.issuedDig.turnsLeft s.params = 3 + 66 * ((s.ports.dLenIn.toNat + 8) / 64 + 1) := by
  refine ⟨⟨Dig.inv_of_padgen rfl rfl rfl rfl rfl hm, ⟨rfl, rfl⟩, by simp [State.issuedDig]⟩, ?_⟩
  have hn : blockCount (paddedLength s.ports.dLenIn.toNat) = (s.ports.dLenIn.toNat + 8) / 64 + 1 := by
    simp [blockCount, paddedLength]
  simp [State.issuedDig, Dig.turnsLeft, fitsBuffer_iff.mpr hf, hn, Nat.add_comm]

end Sys2Proof.Machine

namespace Sys2Proof.Proofs

open Sys2Proof.Machine

/-- Settles O49: the unit serves the command through all its turns, and 3 + 66 NBLK turns leave none. -/
theorem hashComputesItsResult : Obligations.HashComputesItsResult := by
  intro s l hb hm hf hl hcount
  have hstep := step_hashCommand (s := s.setSchedule l) hb hm
  obtain ⟨hserves, hleft⟩ := Dig.serves_issuedDig hm hf
  obtain ⟨hs, ht⟩ := hserves.iterate (l.count .dig)
  have hrun := run_unitTurns hl [] (s.setDig s.issuedDig)
  rw [List.append_nil] at hrun
  exact ⟨_, (run_next _ hstep).trans hrun, hs.complete (by rw [ht, hleft, hcount, Nat.sub_self]) hf⟩

/-- Settles O53: the results of O48 and O49 name the ports, the parameters and the draws only. -/
theorem staleRegistersDoNotMatter : Obligations.StaleRegistersDoNotMatter := by
  rintro s u i a n (⟨rfl, hi, rfl⟩ | ⟨rfl, rfl, hm, hf, rfl⟩) hcs hcu hds hdu hports hparams hdraws
  · obtain ⟨dir, hdir⟩ : ∃ dir, cipherCommand i dir := by
      rcases hi with rfl | rfl
      · exact ⟨false, .inl ⟨rfl, rfl⟩⟩
      · exact ⟨true, .inr ⟨rfl, rfl⟩⟩
    obtain ⟨⟨t, ht, htd, htb, -, hto⟩, -⟩ := cipherCommandComputesItsResult s i dir (List.replicate 34 .ciph) hdir hcs
      (by simp) (by simp) (by simp)
    obtain ⟨⟨v, hv, hvd, hvb, -, hvo⟩, -⟩ := cipherCommandComputesItsResult u i dir (List.replicate 34 .ciph) hdir hcu
      (by simp) (by simp) (by simp)
    rw [List.length_replicate] at ht hv
    refine ⟨t, v, ht, hv, fun _ => ⟨?_, ?_⟩, by simp⟩
    · rw [hto, hvo, hports, hparams, hdraws]
    · rw [Ciph.status, Ciph.status, htd, htb, hvd, hvb]
  · obtain ⟨t, ht, htd, htb, hte, htc, -, hth⟩ := hashComputesItsResult s (List.replicate _ .dig) hds hm hf
      (by simp) (by rw [List.count_replicate_self])
    obtain ⟨v, hv, hvd, hvb, hve, hvc, -, hvh⟩ := hashComputesItsResult u
      (List.replicate (3 + 66 * ((s.ports.dLenIn.toNat + 8) / 64 + 1)) .dig) hdu (hports ▸ hm) (hports ▸ hparams ▸ hf)
      (by simp) (by rw [List.count_replicate_self, hports])
    rw [List.length_replicate] at ht hv
    refine ⟨t, v, ht, hv, by simp, fun _ => ⟨?_, ?_⟩⟩
    · rw [hth, hvh, hports]
    · rw [Dig.status, Dig.status, htd, htb, hte, htc, hvd, hvb, hve, hvc]

end Sys2Proof.Proofs
end

section
/-! PROOFS, the sequencers' tables and what a turn leaves alone (R10, R15, R25, R32). -/

open Sys2Proof.Statements

namespace Sys2Proof.Machine

/-! ### The sequencers' tables (R25, R32) -/

theorem ciphTurn_exec {s : State} {i : Instr} (h : ciphUop s.ciph.phase = some i) : ciphTurn s = exec i s := by
  simp only [ciphTurn, h, unitTurn]

theorem digTurn_exec {s : State} {i : Instr} (h : digUop s.dig.phase = some i) : digTurn s = exec i s := by
  simp only [digTurn, h, unitTurn]

/-- R25: a row of the table is the operation that its phase names, and where the unit stands after the turn. -/
theorem ciphRow_of {s : State} {ph q : CPhase} {i : Instr} {r : Nat} (hp : s.ciph.phase = ph) (hu : ciphUop ph = some i)
    (h : (s.ciph.afterTurn s.params (tailOf s.params.tail s.draws)).phase = q ∧
      (s.ciph.afterTurn s.params (tailOf s.params.tail s.draws)).round.val = r) : ciphRow s i q r :=
  ⟨_, ciphTurn_eq s, (ciphTurn_exec (hp ▸ hu)).symm.trans (ciphTurn_eq s), h.1, h.2⟩

/-- R32: so it is for DIG. -/
theorem digRow_of {s : State} {ph q : DPhase} {i : Instr} {n j : Nat} (hp : s.dig.phase = ph) (hu : digUop ph = some i)
    (h : (s.dig.afterTurn s.params).phase = q ∧ (s.dig.afterTurn s.params).blk = n ∧
      (s.dig.afterTurn s.params).i.val = j) : digRow s i q n j :=
  ⟨_, digTurn_eq s, (digTurn_exec (hp ▸ hu)).symm.trans (digTurn_eq s), h.1, h.2.1, h.2.2⟩

/-- R52: what a turn of CIPH leaves alone. -/
theorem ciphTurn_frame {s t : State} (h : ciphTurn s = .next t) : t.dig = s.dig ∧ t.params = s.params := by
  obtain ⟨c, n, e⟩ := ciphTurn_next s
  obtain rfl := Host.Outcome.next.inj (h.symm.trans e)
  exact ⟨rfl, rfl⟩

/-- R52: what a turn of DIG leaves alone. -/
theorem digTurn_frame {s t : State} (h : digTurn s = .next t) : t.ciph = s.ciph ∧ t.params = s.params := by
  obtain ⟨d, e⟩ := digTurn_next s
  obtain rfl := Host.Outcome.next.inj (h.symm.trans e)
  exact ⟨rfl, rfl⟩

/-- R25: the rows of C.ARK, from where the sequencer goes after it. -/
theorem ciphRow_ark {s : State} {q : CPhase} {r : Fin 11} (hp : s.ciph.phase = .whiten ∨ s.ciph.phase = .ark)
    (h : ∀ v, afterArk (s.ciph.setSt v) = ((s.ciph.setSt v).setRound r).setPhase q) : ciphRow s .cArk q r.val := by
  rcases hp with hp | hp <;> exact ciphRow_of hp rfl (by simp [Ciph.afterTurn, hp, h])

end Sys2Proof.Machine

namespace Sys2Proof.Proofs

open Sys2Proof.Machine

/-- Settles O18, row by row. -/
theorem ciphSequencerFollowsItsTable : Obligations.CiphSequencerFollowsItsTable := by
  rintro s r rfl
  refine ⟨ciphTurn_idle, fun hp => ?loadst, fun hp hd => ?keyEnc, fun hp hd => ?keyDec, fun hp hd => ?whitenEnc,
    fun hp hd => ?whitenDec, fun hp => ?sub, fun hp => ?shift, fun hp => ?ishift, fun hp => ?isub,
    fun hp hd hr => ?arkEnc, fun hp hd hr => ?arkEncLast, fun hp hd hr => ?arkDec, fun hp hd hr => ?arkDecLast,
    fun hp => ?out⟩
  case keyEnc | keyDec => exact ciphRow_of hp rfl (by simp [Ciph.afterTurn, hp, hd])
  case whitenEnc => exact ciphRow_ark (r := 1) (.inl hp) fun v => afterArk_whiten_enc hp hd
  case whitenDec => exact ciphRow_ark (r := 9) (.inl hp) fun v => afterArk_whiten_dec hp hd
  case arkEnc =>
    exact ciphRow_ark (r := ⟨s.ciph.round.val + 1, by omega⟩) (.inr hp) fun v =>
      afterArk_enc_next (c := s.ciph.setSt v) hp hd hr
  case arkEncLast => exact hr ▸ ciphRow_ark (r := s.ciph.round) (.inr hp) fun v => afterArk_enc_last hp hd hr
  case arkDec =>
    exact ciphRow_ark (r := ⟨s.ciph.round.val - 1, by omega⟩) (.inr hp) fun v =>
      afterArk_dec_next (c := s.ciph.setSt v) hp hd hr
  case arkDecLast => exact hr ▸ ciphRow_ark (r := s.ciph.round) (.inr hp) fun v => afterArk_dec_last hp hd hr
  all_goals exact ciphRow_of hp rfl (by simp [Ciph.afterTurn, hp])

/-- Settles O29, row by row. -/
theorem digSequencerFollowsItsTable : Obligations.DigSequencerFollowsItsTable := by
  rintro s n j rfl rfl
  refine ⟨digTurn_idle, fun hp hf => ?padgen, fun hp hf => ?fails, fun hp => ?init, fun hp => ?loadx,
    fun hp hj => ?step, fun hp hj => ?stepLast, fun hp hn => ?addback, fun hp hn => ?addbackLast, fun hp => ?render⟩
  case padgen => exact digRow_of hp rfl (by simp [Dig.afterTurn, hp, fitsBuffer_iff.mpr hf])
  case fails =>
    rw [digTurn_exec (by rw [hp]; rfl), exec_dPadgen_fails (by simpa using mt fitsBuffer_iff.mp (not_not.mpr hf))]
  case step =>
    have hnext := fun q => afterStep_next (d := s.dig.setWork q) hj
    exact digRow_of hp rfl (by simp [Dig.afterTurn, hp, hnext])
  case stepLast =>
    have hlast := fun q => afterStep_last (d := s.dig.setWork q) hj
    exact digRow_of hp rfl (by simp [Dig.afterTurn, hp, hlast, hj])
  case addback =>
    have hnext := fun q => afterAddback_next (d := s.dig.setAcc q) hn
    exact digRow_of hp rfl (by simp [Dig.afterTurn, hp, hnext])
  case addbackLast =>
    have hlast := fun q => afterAddback_last (d := s.dig.setAcc q) hn.ge
    exact digRow_of hp rfl (by simp [Dig.afterTurn, hp, hlast])
  all_goals exact digRow_of hp rfl (by simp [Dig.afterTurn, hp])

/-- Settles O5: the schedule names the mover, and a draw does where it is empty. -/
theorem stepRunsThePhasesOperation : Obligations.StepRunsThePhasesOperation := by
  refine ⟨fun s l i hl hi => ?_, fun s l i hl hi => ?_, fun s l hl hp => ?_, fun s l hl hp => ?_, fun s l hl hq => ?_,
    fun s hl => ⟨drawnAgent s.draws, ?_⟩⟩
  · exact (step_scheduled hl).trans (ciphTurn_exec (s := s.setSchedule l) hi)
  · exact (step_scheduled hl).trans (digTurn_exec (s := s.setSchedule l) hi)
  · exact (step_scheduled hl).trans (ciphTurn_idle (s := s.setSchedule l) hp)
  · exact (step_scheduled hl).trans (digTurn_idle (s := s.setSchedule l) hp)
  · rw [step_scheduled hl]
    simp [agentTurn, hostTurn, hq]
  · simp [step, takeTurn, hl]

/-- Settles O37: each turn is a function of its own unit, so the two updates commute. -/
theorem unitsShareNothing : Obligations.UnitsShareNothing := by
  intro s
  refine ⟨_, _, _, ciphTurn_eq s, digTurn_eq _, digTurn_eq s, ciphTurn_eq _, ?_, rfl⟩
  simp only [ciphAdvance, Ciph.drawsAfterTurn]
  split <;> rfl

/-- Settles O36: a turn of a unit, and what a turn of the host can do, leave the parameters. -/
theorem noStepWritesATable : Obligations.NoStepWritesATable := by
  intro s t h
  obtain ⟨l, n, hhost | hciph | hdig⟩ := step_cases h
  · obtain ⟨-, rfl⟩ | ⟨a, rest, -, ⟨-, p, hs, k, rfl⟩ | ⟨b, dir, -, hi⟩ | ⟨b, -, hi⟩ | ⟨-, rfl⟩⟩ := hostTurn_cases hhost
    case inr.inr.inl => obtain ⟨-, rfl⟩ := issueCiph_next.mp hi; rfl
    case inr.inr.inr.inl => obtain ⟨-, -, rfl⟩ := issueDig_next.mp hi; rfl
    all_goals rfl
  · exact (ciphTurn_frame hciph).2
  · exact (digTurn_frame hdig).2

/-- Settles O39: a unit's turn leaves its latches, and of the host's moves only an issue step does not. -/
theorem onlyIssueStepsWriteLatches : Obligations.OnlyIssueStepsWriteLatches := by
  intro s t h hreset
  obtain ⟨l, n, hhost | hciph | hdig⟩ := step_cases h
  · obtain ⟨-, rfl⟩ | ⟨a, rest, hq, ⟨-, p, hs, k, rfl⟩ | ⟨b, dir, rfl, hi⟩ | ⟨b, rfl, hi⟩ | ⟨rfl, -⟩⟩ := hostTurn_cases hhost
    · exact ⟨.inl ⟨rfl, rfl, rfl⟩, .inl ⟨rfl, rfl⟩⟩
    · exact ⟨.inl ⟨rfl, rfl, rfl⟩, .inl ⟨rfl, rfl⟩⟩
    · obtain ⟨hb, rfl⟩ := issueCiph_next.mp hi
      exact ⟨.inr ⟨b, rest, hq, rfl, hb⟩, .inl ⟨rfl, rfl⟩⟩
    · obtain ⟨hb, -, rfl⟩ := issueDig_next.mp hi
      exact ⟨.inl ⟨rfl, rfl, rfl⟩, .inr ⟨b, rest, hq, rfl, hb⟩⟩
    · exact absurd hq (hreset rest)
  · have hlatches := ciphTurn_latches hciph
    obtain ⟨hdig, -⟩ := ciphTurn_frame hciph
    exact ⟨.inl hlatches, .inl (by rw [hdig]; exact ⟨rfl, rfl⟩)⟩
  · have hlatches := digTurn_latches hdig
    obtain ⟨hciph, -⟩ := digTurn_frame hdig
    exact ⟨.inl (by rw [hciph]; exact ⟨rfl, rfl, rfl⟩), .inl hlatches⟩

end Sys2Proof.Proofs
end

section
/-! PROOFS, the reads, the buffer, HEX and reset (R19, R34, R35, R36). -/

open Sys2Proof.Statements

namespace Sys2Proof.Machine

/-! ### Reads (R34, R163) -/

/-- R34: a valid C_OUT is what a read gives, and no draw is made. -/
theorem readBlockOut_valid {s : State} (h : s.ciph.done = true) : readBlockOut s = (packLanes s.ciph.out, s.draws) := by
  simp only [readBlockOut, Ciph.resultValid, h, if_true]

/-- R163: any other read of it is a draw. -/
theorem readBlockOut_invalid {s : State} (h : s.ciph.done = false) : readBlockOut s =
    (Config.drawBits .blockRead 128 s.draws.inst s.draws.reads, s.draws.nextRead) := by
  simp only [readBlockOut, Ciph.resultValid, h, Bool.false_eq_true, if_false]

/-- R34: a valid HEX is what a read gives, and no draw is made. -/
theorem readHexOut_valid {s : State} (h : s.dig.resultValid = true) : readHexOut s = (packLanes s.dig.hex, s.draws) := by
  simp only [readHexOut, h, if_true]

/-- R163: any other read of it is a draw. -/
theorem readHexOut_invalid {s : State} (h : s.dig.resultValid = false) : readHexOut s =
    (Config.drawBits .hexRead 256 s.draws.inst s.draws.reads, s.draws.nextRead) := by
  simp only [readHexOut, h, Bool.false_eq_true, if_false]

theorem Dig.resultValid_iff (d : Dig) : d.resultValid = true ↔ d.done = true ∧ d.err = false := by
  simp [Dig.resultValid]

/-- R35: what C_BLOCK_OUT reads as depends on C_DONE, a valid C_OUT and the draws. -/
theorem readBlockOut_congr {s u : State} (hd : s.ciph.done = u.ciph.done) (hn : s.draws = u.draws)
    (ho : s.ciph.done = true → s.ciph.out = u.ciph.out) : readBlockOut s = readBlockOut u := by
  cases h : s.ciph.done
  · rw [readBlockOut_invalid h, readBlockOut_invalid (hd ▸ h), hn]
  · rw [readBlockOut_valid h, readBlockOut_valid (hd ▸ h), ho h, hn]

/-- R35: what D_HEX_OUT reads as depends on D_DONE, D_ERR, a valid HEX and the draws. -/
theorem readHexOut_congr {s u : State} (hd : s.dig.resultValid = u.dig.resultValid) (hn : s.draws = u.draws)
    (ho : s.dig.resultValid = true → s.dig.hex = u.dig.hex) : readHexOut s = readHexOut u := by
  cases h : s.dig.resultValid
  · rw [readHexOut_invalid h, readHexOut_invalid (hd ▸ h), hn]
  · rw [readHexOut_valid h, readHexOut_valid (hd ▸ h), ho h, hn]

/-- R34: equal status words have equal DONE flags. -/
theorem Ciph.done_of_status {c c' : Ciph} (h : c.status = c'.status) : c.done = c'.done := by
  rw [← (ciph_status_bits c).2, h, (ciph_status_bits c').2]

/-- R34, R33: with equal status words both results are valid or neither is. -/
theorem Dig.resultValid_of_status {d d' : Dig} (h : d.status = d'.status) : d.resultValid = d'.resultValid := by
  obtain ⟨-, hd, he, -⟩ := dig_status_bits d
  obtain ⟨-, hd', he', -⟩ := dig_status_bits d'
  rw [Dig.resultValid, Dig.resultValid, ← hd, ← he, h, hd', he']

/-! ### What the invariant says of the buffer and of HEX -/

/-- R19, R47: the buffer of a message of the stated length is whole blocks that end in the length field. -/
theorem Dig.bufferOk_of_paddedOk {p : Params} {d : Dig} (hm : d.messageOk) (h : d.paddedOk p) : d.bufferOk := by
  obtain ⟨hbit, hlen, hbuf, -⟩ := h
  have hblocks := paddedLength_blocks d.len.toNat
  have hpos := blockCount_pos d.len.toNat
  refine ⟨by rw [hbuf, hlen, padMessage_length hm], by rw [hlen]; omega, by rw [hlen]; omega, ?_⟩
  rw [hbuf, hlen, hbit, padMessage_drop hm]

/-- R19: in every phase after PADGEN the buffer holds the padded message. -/
theorem Dig.paddedOk_of_phase {p : Params} {d : Dig} (h : d.Inv p) (hp : d.phase = .init ∨ d.phase = .loadx ∨
    d.phase = .step ∨ d.phase = .addback ∨ d.phase = .render) : d.messageOk ∧ d.paddedOk p := by
  obtain ⟨-, hd⟩ := h
  unfold Dig.dataOk at hd
  rcases hp with hp | hp | hp | hp | hp <;> simp only [hp] at hd
  · exact hd
  all_goals
    obtain ⟨hm, hpad, -⟩ := hd
    exact ⟨hm, hpad⟩

/-- R123: a nibble's character is a lowercase hexadecimal digit. -/
theorem isDigitCode_hexDigit {v : Nat} (h : v < 16) : isDigitCode (hexDigit v) := by
  unfold isDigitCode
  interval_cases v <;> decide

/-- R34: every character that R123 renders is one. -/
theorem isDigitCode_renderHex (q : Quad) (j : Fin 32) : isDigitCode (renderHex q)[j] := by
  have hb := (digestByte q (j.val / 2)).isLt
  rw [Fin.getElem_fin, renderHex_get q j.val j.isLt]
  split
  · exact isDigitCode_hexDigit (by omega)
  · exact isDigitCode_hexDigit (by omega)

/-- R33, R178: a valid HEX is the digest of the message latched. -/
theorem Dig.hex_of_valid {p : Params} {d : Dig} (h : d.Inv p) (hd : d.done = true) (he : d.err = false) :
    d.hex = digestHex d.msg d.len := by
  obtain ⟨hs, hdata⟩ := h
  have hp : d.phase = .idle := by
    by_contra hp
    obtain ⟨-, hn, -⟩ := (Dig.sequencerOk_running hp).mp hs
    simp [hd] at hn
  simp only [Dig.dataOk, hp] at hdata
  obtain ⟨-, hres⟩ := hdata hd
  simp only [he, Bool.false_eq_true, if_false] at hres
  exact hres.1

end Sys2Proof.Machine

namespace Sys2Proof.Proofs

open Sys2Proof.Machine

/-- Settles O32: the status words hold the flags, and a packed result its bytes. -/
theorem readsGiveFlagsAndResults : Obligations.ReadsGiveFlagsAndResults := by
  intro s
  refine ⟨⟨_, step_hostNext s _, ciph_status_bits _⟩, ⟨_, step_hostNext s _, dig_status_bits _⟩, fun hd => ?_,
    fun hd he => ?_⟩
  · refine ⟨packLanes s.ciph.out, ?_, packLanes_get s.ciph.out⟩
    rw [step_hostNext]
    simp only [hostMove, readBlockOut_valid hd]; rfl
  · refine ⟨packLanes s.dig.hex, ?_, packLanes_get s.dig.hex⟩
    rw [step_hostNext]
    simp only [hostMove, readHexOut_valid ((Dig.resultValid_iff _).mpr ⟨hd, he⟩)]; rfl

/-- Settles O33: each read depends on a status word, or on a result while it is valid, and on the draws. -/
theorem readsRevealNothingInternal : Obligations.ReadsRevealNothingInternal := by
  intro s u a ha hhost hdraws hcs hds hout hhex
  have hb := readBlockOut_congr (Ciph.done_of_status hcs) hdraws hout
  have hx := readHexOut_congr (Dig.resultValid_of_status hds) hdraws fun h =>
    hhex ((Dig.resultValid_iff _).mp h).1 ((Dig.resultValid_iff _).mp h).2
  simp only [step_hostNext]
  simp only [List.mem_cons, List.not_mem_nil, or_false] at ha
  rcases ha with rfl | rfl | rfl | rfl <;> refine ⟨_, _, rfl, rfl, ?_⟩
  · simp [receive, hhost, hdraws, hcs]
  · simp [receive, hhost, hdraws, hds]
  · simp [receive, hhost, hb]
  · simp [receive, hhost, hx]

/-- Settles O41: the buffer is the padded message, and D_BLK is below the number of its blocks. -/
theorem bufferReadsStayInside : Obligations.BufferReadsStayInside := by
  intro s h
  refine ⟨fun hp => ?_, fun hp j k hj hk => ?_⟩
  · obtain ⟨hm, hpad⟩ := Dig.paddedOk_of_phase h hp
    exact Dig.bufferOk_of_paddedOk hm hpad
  · obtain ⟨-, hd⟩ := h
    simp only [Dig.dataOk, hp] at hd
    obtain ⟨hm, hpad, hblk, -⟩ := hd
    obtain ⟨hlen, hwhole, -⟩ := Dig.bufferOk_of_paddedOk hm hpad
    unfold blockCount at hblk
    omega

/-- Settles O42: a valid HEX is a digest, which R123 rendered. -/
theorem validHexIsLowercaseDigits : Obligations.ValidHexIsLowercaseDigits := by
  intro s h hd he j
  rw [Dig.hex_of_valid h.2 hd he]
  exact isDigitCode_renderHex _ j

/-- Settles O30. -/
theorem resetLeavesBothUnitsIdle : Obligations.ResetLeavesBothUnitsIdle :=
  ⟨rfl, rfl, rfl, rfl, rfl, rfl⟩

/-- Settles O43: both units are idle with their flags clear. -/
theorem resetMeetsTheInvariant : Obligations.ResetMeetsTheInvariant :=
  ⟨Ciph.inv_of_idle rfl rfl rfl, Dig.inv_of_idle rfl rfl rfl rfl rfl⟩

end Sys2Proof.Proofs
end

section
/-! PROOFS, what stops a step, what a result outlives, and the order of the units' turns (R52, R53, R162, R163). -/

namespace Sys2Proof.Machine

/-! ### Refusals (R162, R163) -/

/-- R163: the ways in which a byte written to a command port breaches the host's contract, each with its refusal. -/
def State.breach (s : State) (p : CmdPort) (b : Byte) (r : Refusal) : Prop :=
  (r = .reservedCommand p b ∧ ∀ i, decodeOn p b ≠ .ok i) ∨
  (r = .issueWhileBusy .cCmd ∧ p = .cCmd ∧ s.ciph.busy = true) ∨
  (r = .issueWhileBusy .dCmd ∧ p = .dCmd ∧ s.dig.busy = true) ∨
  (r = .lengthMismatch ∧ p = .dCmd ∧ s.ports.dMsgIn.length ≠ s.ports.dLenIn.toNat)

/-- R163 (a): the CIPH issue step is refused only while the unit is busy. -/
theorem issueCiph_refused {dir : Bool} {s : State} {r : Refusal} (h : issueCiph dir s = .refused r) :
    r = .issueWhileBusy .cCmd ∧ s.ciph.busy = true := by
  unfold issueCiph at h
  split at h
  next hb => exact ⟨(Host.Outcome.refused.inj h).symm, hb⟩
  next => cases h

/-- R163 (a), (c): the DIG issue step is refused only while the unit is busy or for a wrong length. -/
theorem issueDig_refused {s : State} {r : Refusal} (h : issueDig s = .refused r) :
    (r = .issueWhileBusy .dCmd ∧ s.dig.busy = true) ∨
      (r = .lengthMismatch ∧ s.ports.dMsgIn.length ≠ s.ports.dLenIn.toNat) := by
  unfold issueDig at h
  split at h
  next hb => exact .inl ⟨(Host.Outcome.refused.inj h).symm, hb⟩
  next =>
    split at h
    next => cases h
    next hm => exact .inr ⟨(Host.Outcome.refused.inj h).symm, mt messageWf_iff.mpr hm⟩

/-- R163: a command write is refused only for a breach: its byte is reserved, or the operation it names is refused. -/
theorem writeCommand_refused {p : CmdPort} {b : Byte} {s : State} {r : Refusal} (h : writeCommand p b s = .refused r) :
    s.breach p b r := by
  unfold writeCommand at h
  split at h
  next i hi =>
    rcases decodeOn_ok hi with ⟨rfl, rfl | rfl⟩ | ⟨rfl, rfl⟩
    · obtain ⟨hr, hb⟩ := issueCiph_refused ((exec_enc s).symm.trans h)
      exact .inr (.inl ⟨hr, rfl, hb⟩)
    · obtain ⟨hr, hb⟩ := issueCiph_refused ((exec_dec s).symm.trans h)
      exact .inr (.inl ⟨hr, rfl, hb⟩)
    · obtain ⟨hr, hb⟩ | ⟨hr, hm⟩ := issueDig_refused ((exec_hash s).symm.trans h)
      · exact .inr (.inr (.inl ⟨hr, rfl, hb⟩))
      · exact .inr (.inr (.inr ⟨hr, rfl, hm⟩))
  next he => exact .inl ⟨(Host.Outcome.refused.inj h).symm, fun i hi => by simp [he] at hi⟩

/-- R177: of the host's moves only a command write is ever refused. -/
theorem hostTurn_refused {s : State} {r : Refusal} (h : hostTurn s = .refused r) :
    ∃ p b rest, s.host.queue = .writeCmd p b :: rest ∧ s.breach p b r := by
  unfold hostTurn at h
  split at h
  next => cases h
  next a rest hq =>
    cases a with
    | writeCmd p b => exact ⟨p, b, rest, hq, writeCommand_refused (s := s.setHost { s.host with queue := rest }) h⟩
    | _ => cases h

/-- R162: a turn of a unit always answers a next state, so a refused step is a turn of the host. -/
theorem step_refused {s : State} {r : Refusal} (h : step s = .refused r) :
    s.mover = .host ∧ hostTurn (takeTurn s).2 = .refused r := by
  unfold step at h
  unfold State.mover
  cases ha : (takeTurn s).1 <;> rw [ha] at h
  case host => exact ⟨rfl, h⟩
  case ciph => cases (ciphTurn_eq _).symm.trans h
  case dig => cases (digTurn_eq _).symm.trans h

/-! ### Results (R53, R186) -/

/-- R26: a unit that is done is idle. -/
theorem Ciph.idle_of_done {p : Params} {c : Ciph} (h : c.Inv p) (hd : c.done = true) : c.phase = .idle := by
  by_contra hp
  obtain ⟨-, hn⟩ := Ciph.flags_of_running hp h.1
  simp [hd] at hn

/-- R33: so is DIG. -/
theorem Dig.idle_of_done {p : Params} {d : Dig} (h : d.Inv p) (hd : d.done = true) : d.phase = .idle := by
  by_contra hp
  obtain ⟨-, hn, -⟩ := (Dig.sequencerOk_running hp).mp h.1
  simp [hd] at hn

/-- R177: a turn of the host that neither issues to CIPH nor is RESET leaves CIPH alone. -/
theorem hostTurn_ciph {s t : State} (h : hostTurn s = .next t) (hreset : ∀ rest, s.host.queue ≠ .reset :: rest)
    (hissue : ∀ b rest, s.host.queue ≠ .writeCmd .cCmd b :: rest) : t.ciph = s.ciph := by
  obtain ⟨-, rfl⟩ | ⟨a, rest, hq, ⟨-, p, hs, k, rfl⟩ | ⟨b, dir, rfl, -⟩ | ⟨b, -, hi⟩ | ⟨rfl, -⟩⟩ := hostTurn_cases h
  · rfl
  · rfl
  · exact absurd hq (hissue b rest)
  · obtain ⟨-, -, rfl⟩ := issueDig_next.mp hi
    rfl
  · exact absurd hq (hreset rest)

/-- R177: a turn of the host that neither issues to DIG nor is RESET leaves DIG alone. -/
theorem hostTurn_dig {s t : State} (h : hostTurn s = .next t) (hreset : ∀ rest, s.host.queue ≠ .reset :: rest)
    (hissue : ∀ b rest, s.host.queue ≠ .writeCmd .dCmd b :: rest) : t.dig = s.dig := by
  obtain ⟨-, rfl⟩ | ⟨a, rest, hq, ⟨-, p, hs, k, rfl⟩ | ⟨b, dir, -, hi⟩ | ⟨b, rfl, -⟩ | ⟨rfl, -⟩⟩ := hostTurn_cases h
  · rfl
  · rfl
  · obtain ⟨-, rfl⟩ := issueCiph_next.mp hi
    rfl
  · exact absurd hq (hissue b rest)
  · exact absurd hq (hreset rest)

/-- R25, R52: an idle CIPH is changed by its issue step and RESET alone. -/
theorem step_ciph_of_idle {s t : State} (h : step s = .next t) (hp : s.ciph.phase = .idle)
    (hreset : ∀ rest, s.host.queue ≠ .reset :: rest) (hissue : ∀ b rest, s.host.queue ≠ .writeCmd .cCmd b :: rest) :
    t.ciph = s.ciph := by
  obtain ⟨l, n, hhost | hciph | hdig⟩ := step_cases h
  · exact (hostTurn_ciph hhost hreset hissue).trans rfl
  · obtain rfl := Host.Outcome.next.inj (hciph.symm.trans (ciphTurn_idle hp))
    rfl
  · exact (digTurn_frame hdig).1

/-- R32, R52: an idle DIG is changed by its issue step and RESET alone. -/
theorem step_dig_of_idle {s t : State} (h : step s = .next t) (hp : s.dig.phase = .idle)
    (hreset : ∀ rest, s.host.queue ≠ .reset :: rest) (hissue : ∀ b rest, s.host.queue ≠ .writeCmd .dCmd b :: rest) :
    t.dig = s.dig := by
  obtain ⟨l, n, hhost | hciph | hdig⟩ := step_cases h
  · exact (hostTurn_dig hhost hreset hissue).trans rfl
  · exact (ciphTurn_frame hciph).1
  · obtain rfl := Host.Outcome.next.inj (hdig.symm.trans (digTurn_idle hp))
    rfl

/-! ### A whole schedule of unit turns (R52) -/

/-- R52: a run over all of a schedule without turns of the host is each unit's own turns. -/
theorem run_wholeSchedule {l : List Agent} (hl : ∀ a ∈ l, a ≠ .host) (s : State) :
    Host.Core.run Sys2Proof.core l.length { s with schedule := l } =
      .next (s.afterTurns (l.count .ciph) (l.count .dig) []) := by
  have h := run_unitTurns hl [] s
  rwa [List.append_nil] at h

/-- R52: a run of n turns of one unit alone. -/
theorem run_replicate {a : Agent} (ha : a ≠ .host) (n : Nat) (s : State) :
    Host.Core.run Sys2Proof.core n { s with schedule := List.replicate n a } =
      .next (s.afterTurns ((List.replicate n a).count .ciph) ((List.replicate n a).count .dig) []) := by
  have h := run_wholeSchedule (l := List.replicate n a) (fun b hb => List.eq_of_mem_replicate hb ▸ ha) s
  rwa [List.length_replicate] at h

end Sys2Proof.Machine

namespace Sys2Proof.Proofs

open Sys2Proof.Machine

/-- Settles O51: where a run of unit turns ends depends only on how many turns each unit has. -/
theorem interleavingDoesNotMatter : Obligations.InterleavingDoesNotMatter := by
  intro s l m hlm hl
  have hm : ∀ a ∈ m, a ≠ .host := fun a ha => hl a (hlm.mem_iff.mpr ha)
  have hrun := run_wholeSchedule hm s
  rw [← hlm.count_eq, ← hlm.count_eq] at hrun
  refine ⟨_, _, _, run_wholeSchedule hl s, hrun, run_replicate (by decide) _ s, run_replicate (by decide) _ s, ?_, ?_⟩
  · rw [List.count_replicate_self]
    rfl
  · rw [List.count_replicate_self]
    rfl

/-- Settles O38: there is no fault to answer, and a refused step is a turn of the host that breaches its contract. -/
theorem onlyContractBreachesStop : Obligations.OnlyContractBreachesStop := by
  intro s
  refine ⟨nofun, fun r h => ?_⟩
  obtain ⟨hmover, hhost⟩ := step_refused h
  obtain ⟨l, n, e⟩ := takeTurn_state s
  rw [e] at hhost
  obtain ⟨p, b, rest, hq, hbreach⟩ := hostTurn_refused hhost
  exact ⟨hmover, p, b, rest, hq, hbreach⟩

/-- Settles O40: a unit that is done is idle, and an idle unit is left alone. -/
theorem resultStaysUntilNextIssue : Obligations.ResultStaysUntilNextIssue := by
  intro s t hs h hreset
  refine ⟨fun hd hissue => ?_, fun hd hissue => ?_⟩
  · rw [step_ciph_of_idle h (Ciph.idle_of_done hs.1 hd) hreset hissue]
    exact ⟨hd, rfl⟩
  · rw [step_dig_of_idle h (Dig.idle_of_done hs.2 hd) hreset hissue]
    exact ⟨hd, rfl, rfl⟩

end Sys2Proof.Proofs
end

section
/-! PROOFS, encoding. The decoder and the encoder are inverse to each other, on either format, so each port takes the bytes of
its own commands and no others (R60 to R64, R69). -/

namespace Sys2Proof

/-! ### Decoder and encoder (R61 to R63, R69) -/

/-- R62, R63: the laws for each operation, as one. -/
theorem decode_encode (i : Instr) : decode (encode i) = .ok i := by
  open Laws in
  cases i
  exacts [RoundTrip.enc, RoundTrip.dec, RoundTrip.hash, RoundTrip.cLoadst, RoundTrip.cKeyload, RoundTrip.cArk,
    RoundTrip.cSub, RoundTrip.cShift, RoundTrip.cIsub, RoundTrip.cIshift, RoundTrip.cOut, RoundTrip.dPadgen,
    RoundTrip.dInit, RoundTrip.dLoadx, RoundTrip.dStep, RoundTrip.dAddback, RoundTrip.dRender]

/-- R61: the two fields of CMD8 are the whole byte. -/
theorem cmd8_fields (b : Byte) : cmd8 (cmdUnit b) (opField b) = b :=
  BitVec.extractLsb'_append_extractLsb' (w := 4) (len := 4)

/-- R63: where bit 7 is set, the two fields of UOP8 are the rest of the byte. -/
theorem uop8_fields {b : Byte} (h : isUopByte b = true) : uop8 (uopUnit b) (opField b) = b := by
  have hbit : 1#1 = b.extractLsb' 7 1 := by
    ext k hk
    obtain rfl : k = 0 := by omega
    simpa [isUopByte] using h.symm
  calc uop8 (uopUnit b) (opField b)
      = (b.extractLsb' 7 1 ++ b.extractLsb' 4 3) ++ b.extractLsb' 0 4 := by rw [← hbit]; rfl
    _ = b.extractLsb' 4 4 ++ b.extractLsb' 0 4 := by
      rw [BitVec.extractLsb'_append_extractLsb'_eq_extractLsb' (start₁ := 4) (len₁ := 3) rfl]
    _ = b := cmd8_fields b

/-- R62: a byte that CMD8 reads as an operation is that operation's byte. -/
theorem encode_of_decodeCommand {b : Byte} {i : Instr} (h : decodeCommand b = .ok i) : encode i = b := by
  rw [← cmd8_fields b]
  unfold decodeCommand at h
  split at h
  case h_4 => cases h
  all_goals
    next hu ho =>
      cases h
      rw [(BitVec.toNat_eq_nat.mp hu).2, (BitVec.toNat_eq_nat.mp ho).2]
      rfl

/-- R63: so is one with bit 7 set that UOP8 reads as an operation. -/
theorem encode_of_decodeUop {b : Byte} {i : Instr} (hb : isUopByte b = true) (h : decodeUop b = .ok i) :
    encode i = b := by
  rw [← uop8_fields hb]
  unfold decodeUop at h
  split at h
  case h_15 => cases h
  all_goals
    next hu ho =>
      cases h
      rw [(BitVec.toNat_eq_nat.mp hu).2, (BitVec.toNat_eq_nat.mp ho).2]
      rfl

/-- R69: bit 7 says which format reads the byte. -/
theorem encode_of_decode {b : Byte} {i : Instr} (h : decode b = .ok i) : encode i = b := by
  unfold decode at h
  split at h
  · exact encode_of_decodeUop ‹_› h
  · exact encode_of_decodeCommand h

/-- R64: what a port takes is read as CMD8. -/
theorem encode_of_decodeOn {p : CmdPort} {b : Byte} {i : Instr} (h : decodeOn p b = .ok i) : encode i = b := by
  unfold decodeOn at h
  split at h
  next j hj =>
    split at h
    · cases h
      exact encode_of_decodeCommand hj
    · cases h
  next => cases h

/-- R64: a byte that is no command of its port. -/
theorem decodeOn_reserved {p : CmdPort} {b : Byte} (hc : p = .cCmd → b ≠ 0x00 ∧ b ≠ 0x01) (hd : p = .dCmd → b ≠ 0x10)
    (i : Instr) : decodeOn p b ≠ .ok i := by
  intro h
  have hb := encode_of_decodeOn h
  obtain ⟨hp, rfl | rfl⟩ | ⟨hp, rfl⟩ := Machine.decodeOn_ok h
  · exact (hc hp).1 hb.symm
  · exact (hc hp).2 hb.symm
  · exact hd hp hb.symm

/-- R60, R64: the operations that some command port takes. -/
theorem wfOn_some_iff {i : Instr} : (i.wfOn .cCmd || i.wfOn .dCmd) = true ↔ i = .enc ∨ i = .dec ∨ i = .hash := by
  cases i <;> simp [Instr.wfOn]

/-- R69: a row of the opcode table that holds a byte. -/
theorem tableByte_toNat (b : Byte) : tableByte 8 b.toNat = b := by
  rw [tableByte, Nat.mod_eq_of_lt b.isLt, BitVec.ofNat_toNat, BitVec.setWidth_eq]

end Sys2Proof

namespace Sys2Proof.Machine

/-! ### A command written to its port (R64, R66, R67) -/

/-- R62: a byte that its port decodes to an operation runs it. -/
theorem step_writeCmd {p : CmdPort} {b : Byte} {i : Instr} (h : decodeOn p b = .ok i) (s : State) :
    step (s.hostNext (.writeCmd p b)) = exec i s := by
  rw [step_hostNext]
  simp only [hostMove, writeCommand, h]

/-- R64: any other byte is refused. -/
theorem step_writeCmd_reserved {p : CmdPort} {b : Byte} (h : ∀ i, decodeOn p b ≠ .ok i) (s : State) :
    step (s.hostNext (.writeCmd p b)) = .refused (.reservedCommand p b) := by
  rw [step_hostNext]
  cases hd : decodeOn p b with
  | ok i => exact absurd hd (h i)
  | error e => simp only [hostMove, writeCommand, hd]

/-- R163 (a): the CIPH issue step is refused while the unit is busy. -/
theorem issueCiph_busy {dir : Bool} {s : State} (h : s.ciph.busy = true) :
    issueCiph dir s = .refused (.issueWhileBusy .cCmd) := by
  simp only [issueCiph, h, if_true]

/-- R163 (a): so is the DIG issue step. -/
theorem issueDig_busy {s : State} (h : s.dig.busy = true) : issueDig s = .refused (.issueWhileBusy .dCmd) := by
  simp only [issueDig, h, if_true]

/-- R65: bit k of lane j is bit 8j + k of the port value. -/
theorem portLanes_bit (v : BitVec 128) (j : Fin 16) (k : Fin 8) :
    (portLanes v)[j].getLsbD k.val = v.getLsbD (8 * j.val + k.val) := by
  rw [portLanes_get, BitVec.getLsbD_extractLsb', decide_eq_true k.isLt, Bool.true_and]

/-- R60: the direction of a cipher command is bit 0 of its byte. -/
theorem cipherCommand_dir {i : Instr} {dir : Bool} (h : Statements.cipherCommand i dir) : dir = (encode i).getLsbD 0 := by
  obtain ⟨rfl, rfl⟩ | ⟨rfl, rfl⟩ := h <;> rfl

/-! ### An operation placed by withFetchWord (log 6) -/

theorem withFetchWord_encode (s : State) (i : Instr) : s.withFetchWord 8 (encode i).toNat = placeByte (encode i) s := by
  rw [State.withFetchWord, tableByte_toNat]

/-- A command is placed as the host's next move, on a port that decodes it. -/
theorem placeByte_command {i : Instr} (h : (i.wfOn .cCmd || i.wfOn .dCmd) = true) (s : State) :
    ∃ p, placeByte (encode i) s = s.hostNext (.writeCmd p (encode i)) ∧ decodeOn p (encode i) = .ok i := by
  obtain rfl | rfl | rfl := wfOn_some_iff.mp h
  · exact ⟨.cCmd, rfl, rfl⟩
  · exact ⟨.cCmd, rfl, rfl⟩
  · exact ⟨.dCmd, rfl, rfl⟩

/-- A micro-operation is placed by a phase of its unit that names it. -/
theorem placeByte_uop {i : Instr} (h : (i.wfOn .cCmd || i.wfOn .dCmd) = false) (s : State) :
    (∃ p, ciphUop p = some i ∧ placeByte (encode i) s = placeCiph p s) ∨
      (∃ q, digUop q = some i ∧ placeByte (encode i) s = placeDig q s) := by
  cases i with
  | enc | dec | hash => simp [Instr.wfOn] at h
  | cLoadst | cKeyload | cArk | cSub | cShift | cIsub | cIshift | cOut => exact .inl ⟨_, rfl, rfl⟩
  | dPadgen | dInit | dLoadx | dStep | dAddback | dRender => exact .inr ⟨_, rfl, rfl⟩

/-- R25: the step after CIPH is placed in a phase. -/
theorem step_placeCiph {p : CPhase} {i : Instr} (h : ciphUop p = some i) (s : State) :
    step (placeCiph p s) = exec i (s.setCiph (s.ciph.setPhase p)) :=
  (step_scheduled (a := .ciph) (rest := s.schedule) rfl).trans (ciphTurn_exec (s := s.setCiph (s.ciph.setPhase p)) h)

/-- R32: the step after DIG is placed in a phase. -/
theorem step_placeDig {q : DPhase} {i : Instr} (h : digUop q = some i) (s : State) :
    step (placeDig q s) = exec i (s.setDig (s.dig.setPhase q)) :=
  (step_scheduled (a := .dig) (rest := s.schedule) rfl).trans (digTurn_exec (s := s.setDig (s.dig.setPhase q)) h)

end Sys2Proof.Machine

namespace Sys2Proof.Proofs

open Sys2Proof.Machine

/-- Settles O1: the decoder is evaluated on each byte. -/
theorem writtenBytesDecode : Obligations.WrittenBytesDecode := by
  unfold Obligations.WrittenBytesDecode
  decide

/-- Settles O2: the decoder and the encoder are inverse to each other. -/
theorem byteStandsForOneOperation : Obligations.ByteStandsForOneOperation := by
  refine fun b i => ⟨encode_of_decode, ?_⟩
  rintro rfl
  exact decode_encode i

/-- Settles O3: a port decodes the bytes of its own commands only. -/
theorem reservedCommandIsRefused : Obligations.ReservedCommandIsRefused :=
  fun s _ _ hc hd => step_writeCmd_reserved (decodeOn_reserved hc hd) s

/-- Settles O4: a placed command is a write to a port that decodes it. -/
theorem stepRunsTheWrittenCommand : Obligations.StepRunsTheWrittenCommand := by
  refine ⟨fun s p b i h => step_writeCmd h s, fun s i h => ?_⟩
  obtain ⟨p, hplace, hdec⟩ := placeByte_command h s
  rw [withFetchWord_encode, hplace, step_writeCmd hdec]

/-- Settles O6: the unit is placed in a phase that names the operation, and the other unit stays in its own. -/
theorem placedMicroOperationRuns : Obligations.PlacedMicroOperationRuns := by
  intro s i h
  rw [withFetchWord_encode]
  obtain ⟨p, hp, hplace⟩ | ⟨q, hq, hplace⟩ := placeByte_uop h s
  · refine ⟨p, s.dig.phase, ?_, .inl ⟨hp, rfl⟩⟩
    rw [hplace]
    exact step_placeCiph hp s
  · refine ⟨s.ciph.phase, q, ?_, .inr ⟨hq, rfl⟩⟩
    rw [hplace]
    exact step_placeDig hq s

/-- Settles O7: the issue step latches the lanes of both ports. -/
theorem cipherIssueLatchesOperands : Obligations.CipherIssueLatchesOperands := by
  intro s i dir hi
  rw [exec_cipherCommand hi]
  refine ⟨issueCiph_busy, fun hb => ⟨_, issueCiph_next.mpr ⟨hb, rfl⟩, ?blk, ?key, cipherCommand_dir hi, rfl⟩,
    fun b h0 h1 => reservedCommandIsRefused s .cCmd b (fun _ => ⟨h0, h1⟩) nofun⟩
  case blk => exact portLanes_bit s.ports.cBlockIn
  case key => exact portLanes_bit s.ports.cKeyIn

/-- Settles O8: the issue step latches the message and its length. -/
theorem hashIssueLatchesMessage : Obligations.HashIssueLatchesMessage := by
  intro s
  rw [exec_hash]
  exact ⟨issueDig_busy, fun hb hm => issueDig_next.mpr ⟨hb, messageWf_iff.mpr hm, rfl⟩,
    fun b h => reservedCommandIsRefused s .dCmd b nofun fun _ => h⟩

end Sys2Proof.Proofs
end

section
/-! PROOFS, the cipher's transforms. What the table lookups, the row shifts and the XOR with a round-key slice do to the
sixteen bytes, and which of them undo each other (R80 to R88). -/

open Sys2Proof.Statements

namespace Sys2Proof.Machine

/-! ### Substitution (R81, R82, R152) -/

/-- R152: what the check on the tables says. -/
theorem lookup_of_wf {p : Params} (h : p.wf = true) (x : Byte) :
    lookup p.invSbox (lookup p.sbox x) = x ∧ lookup p.sbox (lookup p.invSbox x) = x := by
  have hx := (List.all_eq_true.mp h) x.toFin (List.mem_finRange _)
  simpa [lookup] using hx

theorem substitute_invSbox_sbox {p : Params} (h : p.wf = true) (v : Vector Byte 16) :
    substitute p.invSbox (substitute p.sbox v) = v :=
  vector_ext fun i => by rw [substitute_get, substitute_get, (lookup_of_wf h _).1]

theorem substitute_sbox_invSbox {p : Params} (h : p.wf = true) (v : Vector Byte 16) :
    substitute p.sbox (substitute p.invSbox v) = v :=
  vector_ext fun i => by rw [substitute_get, substitute_get, (lookup_of_wf h _).2]

/-! ### Row shifts (R83, R84, R95) -/

/-- R83: n left row shifts, by index. -/
theorem shiftRows_iterate_get (n : Nat) (v : Vector Byte 16) (i : Fin 16) :
    (shiftRows^[n] v)[i] = v[shiftIndex^[n] i] := by
  induction n generalizing i with
  | zero => rfl
  | succ n ih => simp only [Function.iterate_succ_apply' shiftRows, shiftRows_get, ih, Function.iterate_succ_apply shiftIndex]

/-- R83: the row shift has order four. -/
theorem shiftIndex_iterate_four (i : Fin 16) : shiftIndex^[4] i = i := by
  revert i; decide

theorem shiftRows_iterate_four (v : Vector Byte 16) : shiftRows^[4] v = v :=
  vector_ext fun i => by simp only [shiftRows_iterate_get, shiftIndex_iterate_four]

theorem shiftRows_iterate_ten (v : Vector Byte 16) : shiftRows^[10] v = shiftRows (shiftRows v) :=
  calc shiftRows^[10] v = shiftRows^[4] (shiftRows^[4] (shiftRows^[2] v)) := rfl
    _ = shiftRows (shiftRows v) := by rw [shiftRows_iterate_four, shiftRows_iterate_four]; rfl

theorem shiftIndex_eq_tableSr (i : Fin 16) : shiftIndex i = tableSr[i] := by
  revert i; decide

theorem ishiftIndex_eq_tableIsr (i : Fin 16) : ishiftIndex i = tableIsr[i] := by
  revert i; decide

theorem shiftIndex_iterate_ten (i : Fin 16) : shiftIndex^[10] i = tableSr10[i] := by
  revert i; decide

/-- The index of row r, column c of the column-major matrix. -/
def matrixIndex (r c : Fin 4) : Fin 16 := ⟨r.val + 4 * c.val, by omega⟩

/-- R83: what comes to row r, column c was at column c + r. -/
theorem shiftIndex_matrixIndex (r c : Fin 4) : shiftIndex (matrixIndex r c) = matrixIndex r (c + r) := by
  revert r c; decide

/-- R84: what comes to row r, column c + r was at column c. -/
theorem ishiftIndex_matrixIndex (r c : Fin 4) : ishiftIndex (matrixIndex r (c + r)) = matrixIndex r c := by
  revert r c; decide

/-! ### The XOR with a slice (R85) -/

theorem addRoundKey_addRoundKey (v : Vector Byte 16) (rk : Vector Byte 176) (r : Fin 11) :
    addRoundKey (addRoundKey v rk r) rk r = v :=
  vector_ext fun i => by rw [addRoundKey_get, addRoundKey_get, BitVec.xor_assoc, BitVec.xor_self, BitVec.xor_zero]

/-- R86: the XOR with slice r + 1 is the XOR with sixteen bytes of the tail. -/
theorem addRoundKey_tail (v key : Vector Byte 16) (tail : Vector Byte 160) (r : Fin 10) (i : Fin 16) :
    (addRoundKey v (roundKeys key tail) r.succ)[i] = v[i] ^^^ tail[16 * r.val + i.val] := by
  rw [addRoundKey_get, roundKeys_tail _ _ _ (Nat.succ_pos _)]
  congr 2
  simp only [Fin.val_succ]; omega

/-- R85: under RK_TAIL_ZERO every slice but slice 0 is the identity. -/
theorem addRoundKey_zeroTail (v key : Vector Byte 16) {r : Fin 11} (h : 1 ≤ r.val) :
    addRoundKey v (roundKeys key zeroTail) r = v := by
  refine vector_ext fun i => ?_
  rw [addRoundKey_get, roundKeys_tail _ _ _ h]
  simp [zeroTail]

end Sys2Proof.Machine

namespace Sys2Proof.Proofs

open Sys2Proof.Machine

/-- Settles O10. -/
theorem loadstCopiesTheBlock : Obligations.LoadstCopiesTheBlock :=
  fun s => ⟨_, exec_cLoadst s, fun _ => rfl, rfl⟩

/-- Settles O11: RK is the key and the tail, by index. -/
theorem keyloadLoadsKeyAndTail : Obligations.KeyloadLoadsKeyAndTail := by
  intro s
  refine ⟨_, tailOf s.params.tail s.draws, exec_cKeyload s, roundKeys_get_key _ _, roundKeys_get_tail _ _, ?fixed, ?drawn,
    rfl⟩
  case fixed => intro f hf; rw [hf]; rfl
  case drawn => intro hd; rw [hd]; rfl

/-- Settles O12: the sequencer after C.ARK moves the round and the phase only, and a slice is the key, or sixteen bytes of
the tail. -/
theorem arkXorsTheRoundSlice : Obligations.ArkXorsTheRoundSlice := by
  refine ⟨fun s => ?exec, addRoundKey_addRoundKey, fun v key tail i => ?key, addRoundKey_tail,
    fun v key r => addRoundKey_zeroTail v key⟩
  case exec =>
    obtain ⟨p, r, e, -⟩ := afterArk_cases { s.ciph with st := addRoundKey s.ciph.st s.ciph.rk s.ciph.round }
    refine ⟨_, exec_cArk s, fun i => ?_, ?_⟩
    · rw [e]
      exact addRoundKey_get _ _ _ i
    · rw [e]; rfl
  case key => rw [addRoundKey_get, roundKeys_key]

/-- Settles O13: the lookup is by definition that of the table. -/
theorem subLooksUpSbox : Obligations.SubLooksUpSbox :=
  ⟨fun s => ⟨_, exec_cSub s, substitute_get s.params.sbox s.ciph.st, rfl⟩, by decide⟩

/-- Settles O14: inverse tables make inverse substitutions. -/
theorem isubLooksUpInvSbox : Obligations.IsubLooksUpInvSbox :=
  ⟨fun s => ⟨_, exec_cIsub s, substitute_get s.params.invSbox s.ciph.st, rfl⟩,
    fun s h => ⟨⟨_, _, exec_cSub s, exec_cIsub _, substitute_invSbox_sbox h s.ciph.st⟩,
      ⟨_, _, exec_cIsub s, exec_cSub _, substitute_sbox_invSbox h s.ciph.st⟩⟩,
    by decide⟩

/-- Settles O15: each clause is a fact about the index map. -/
theorem shiftRotatesRowsLeft : Obligations.ShiftRotatesRowsLeft := by
  refine ⟨fun s => ⟨_, exec_cShift s, fun r c => ?rows, fun i => ?table, fun c => ?row0, rfl⟩, shiftRows_iterate_four,
    shiftRows_iterate_ten⟩
  case rows =>
    have h := shiftRows_get s.ciph.st (matrixIndex r c)
    simp only [shiftIndex_matrixIndex] at h
    exact h
  case table => simp only [shiftRows_get, shiftIndex_eq_tableSr]
  case row0 =>
    have h := shiftRows_get s.ciph.st (matrixIndex 0 c)
    simp only [shiftIndex_matrixIndex, add_zero] at h
    simpa [matrixIndex] using h

/-- Settles O16: ISR is the inverse of SR, so each shift undoes the other. -/
theorem ishiftRotatesRowsRight : Obligations.IshiftRotatesRowsRight := by
  refine ⟨fun s => ⟨_, exec_cIshift s, fun r c => ?rows, fun i => ?table, rfl⟩,
    fun s => ⟨⟨_, _, exec_cShift s, exec_cIshift _, invShiftRows_shiftRows _⟩,
      ⟨_, _, exec_cIshift s, exec_cShift _, shiftRows_invShiftRows _⟩⟩, fun i => ?inverse⟩
  case rows =>
    have h := invShiftRows_get s.ciph.st (matrixIndex r (c + r))
    simp only [ishiftIndex_matrixIndex] at h
    exact h
  case table => simp only [invShiftRows_get, ishiftIndex_eq_tableIsr]
  case inverse =>
    simp only [← shiftIndex_eq_tableSr, ← ishiftIndex_eq_tableIsr]
    exact shiftIndex_ishiftIndex i

/-- Settles O17. -/
theorem outPublishesTheState : Obligations.OutPublishesTheState :=
  fun s => ⟨_, exec_cOut s, fun _ => rfl, rfl⟩

end Sys2Proof.Proofs
end

section
/-! PROOFS, the stream of ENC and DEC. The micro-operations that a CIPH unit has left to run are a function of where its
sequencer stands, and each turn runs the first of them (R25, R91, R92). -/

namespace Sys2Proof.Machine

/-- R91, R92: the micro-operations of a round of ENC, or of DEC. -/
def roundUops (dir : Bool) : List Instr :=
  if dir then [.cIshift, .cIsub, .cArk] else [.cSub, .cShift, .cArk]

/-- R91, R92: the last n rounds of a command, and its C.OUT. -/
def lastRoundsUops (dir : Bool) (n : Nat) : List Instr :=
  (List.replicate n (roundUops dir)).flatten ++ [.cOut]

theorem lastRoundsUops_succ (dir : Bool) (n : Nat) :
    lastRoundsUops dir (n + 1) = roundUops dir ++ lastRoundsUops dir n := by
  simp [lastRoundsUops, List.replicate_succ]

/-- R24: the rounds that follow the one C_ROUND names. -/
def Ciph.roundsLeft (c : Ciph) : Nat :=
  if c.dir then c.round.val else 10 - c.round.val

/-- R91, R92: the micro-operations that a CIPH unit has left to the end of its command. -/
def Ciph.uopsLeft (c : Ciph) : List Instr :=
  match c.phase with
  | .idle => []
  | .loadst => [.cLoadst, .cKeyload, .cArk] ++ lastRoundsUops c.dir 10
  | .keyload => [.cKeyload, .cArk] ++ lastRoundsUops c.dir 10
  | .whiten => [.cArk] ++ lastRoundsUops c.dir 10
  | .sub | .ishift => roundUops c.dir ++ lastRoundsUops c.dir c.roundsLeft
  | .shift | .isub => (roundUops c.dir).drop 1 ++ lastRoundsUops c.dir c.roundsLeft
  | .ark => [.cArk] ++ lastRoundsUops c.dir c.roundsLeft
  | .out => [.cOut]

@[simp] theorem Ciph.uopsLeft_setSt (c : Ciph) (v : Vector Byte 16) : (c.setSt v).uopsLeft = c.uopsLeft := rfl

/-- R25: C.ARK is the first of what is left, and the rest is left after it. -/
theorem Ciph.uopsLeft_afterArk {c : Ciph} (hp : c.phase = .whiten ∨ c.phase = .ark) :
    c.uopsLeft = .cArk :: (afterArk c).uopsLeft := by
  have hround := c.round.isLt
  rcases hp with hp | hp <;> cases hd : c.dir
  · simp [afterArk_whiten_enc hp hd, Ciph.uopsLeft, Ciph.roundsLeft, hp, hd, lastRoundsUops_succ _ 9]
  · simp [afterArk_whiten_dec hp hd, Ciph.uopsLeft, Ciph.roundsLeft, hp, hd, lastRoundsUops_succ _ 9]
  · by_cases hl : c.round.val < 10
    · have hn : 10 - c.round.val = 10 - (c.round.val + 1) + 1 := by omega
      simp [afterArk_enc_next hp hd hl, Ciph.uopsLeft, Ciph.roundsLeft, hp, hd, hn, lastRoundsUops_succ]
    · have ht : c.round.val = 10 := by omega
      simp [afterArk_enc_last hp hd ht, Ciph.uopsLeft, Ciph.roundsLeft, hp, hd, ht, lastRoundsUops]
  · by_cases hl : 0 < c.round.val
    · obtain ⟨k, hk⟩ : ∃ k, c.round.val = k + 1 := ⟨c.round.val - 1, by omega⟩
      simp [afterArk_dec_next hp hd hl, Ciph.uopsLeft, Ciph.roundsLeft, hp, hd, hk, lastRoundsUops_succ]
    · have ht : c.round.val = 0 := by omega
      simp [afterArk_dec_last hp hd ht, Ciph.uopsLeft, Ciph.roundsLeft, hp, hd, ht, lastRoundsUops]

/-- R25: the micro-operation that a phase names is the first of what is left, and the rest is left after it. -/
theorem Ciph.uopsLeft_afterTurn {p : Params} {c : Ciph} {i : Instr} (tail : Vector Byte 160) (h : c.sequencerOk)
    (hi : ciphUop c.phase = some i) : c.uopsLeft = i :: (c.afterTurn p tail).uopsLeft := by
  cases hp : c.phase <;> simp only [hp, ciphUop, Option.some.injEq, reduceCtorEq] at hi <;> subst hi
  case whiten | ark =>
    have h := Ciph.uopsLeft_afterArk (c := c.setSt (addRoundKey c.st c.rk c.round)) (by simp [hp])
    rw [Ciph.uopsLeft_setSt] at h
    simpa only [Ciph.afterTurn, hp] using h
  all_goals
    simp only [Ciph.sequencerOk, hp] at h
    simp [Ciph.afterTurn, Ciph.uopsLeft, Ciph.roundsLeft, roundUops, hp, h]

/-- R25: a turn's identifier, and those of the turns after it. -/
theorem ciphTrace_succ (n : Nat) {s : State} {i : Instr} (h : ciphUop s.ciph.phase = some i) : ∃ t,
    ciphTurn s = .next t ∧ t.ciph = s.ciph.afterTurn s.params (tailOf s.params.tail s.draws) ∧
      ciphTrace (n + 1) s = encode i :: ciphTrace n t := by
  have he := (ciphTurn_exec h).symm.trans (ciphTurn_eq s)
  exact ⟨_, ciphTurn_eq s, rfl, by simp only [ciphTrace, h, he]⟩

/-- R91, R92: with as many turns as the command has left, or more, CIPH runs what is left and no more. -/
theorem ciphTrace_eq_uopsLeft (n : Nat) {s : State} (h : s.ciph.Inv s.params) (hn : s.ciph.turnsLeft ≤ n) :
    ciphTrace n s = s.ciph.uopsLeft.map encode := by
  induction n generalizing s with
  | zero =>
    have hp := (Ciph.turnsLeft_eq_zero _).mp (Nat.le_zero.mp hn)
    simp only [ciphTrace, Ciph.uopsLeft, hp, List.map_nil]
  | succ n ih =>
    cases hi : ciphUop s.ciph.phase with
    | none =>
      have hp : s.ciph.phase = .idle := by cases hp : s.ciph.phase <;> simp [hp, ciphUop] at hi ⊢
      simp only [ciphTrace, Ciph.uopsLeft, hp, ciphUop, List.map_nil]
    | some i =>
      obtain ⟨t, ht, hc, htrace⟩ := ciphTrace_succ n hi
      have hparams := (ciphTurn_frame ht).2
      have hleft := Ciph.turnsLeft_afterTurn (p := s.params) (tailOf s.params.tail s.draws) h.1
      rw [htrace, Ciph.uopsLeft_afterTurn _ h.1 hi, List.map_cons, ← hc]
      rw [ih (by rw [hc, hparams]; exact Ciph.afterTurn_inv _ h) (by rw [hc, hleft]; omega)]

/-- R66, R91, R92: the stream of a cipher command issued to an idle unit, in 34 turns or more. -/
theorem ciphTrace_issued {s : State} (dir : Bool) (hb : s.ciph.busy = false) {n : Nat} (hn : 34 ≤ n) :
    ∃ a, issueCiph dir s = .next a ∧
      ciphTrace n a = ([Instr.cLoadst, .cKeyload, .cArk] ++ lastRoundsUops dir 10).map encode :=
  ⟨s.setCiph (s.issuedCiph dir), issueCiph_next.mpr ⟨hb, rfl⟩,
    ciphTrace_eq_uopsLeft n (Ciph.inv_of_loadst rfl rfl rfl) hn⟩

end Sys2Proof.Machine

namespace Sys2Proof.Proofs

open Sys2Proof.Machine

/-- Settles O46: both commands run what is left after the issue step, which has 34 turns left. -/
theorem cipherCommandsRunTheirSequence : Obligations.CipherCommandsRunTheirSequence :=
  fun _ hb => ⟨ciphTrace_issued false hb (n := 35) (by decide), ciphTrace_issued true hb (n := 35) (by decide)⟩

end Sys2Proof.Proofs
end

section
/-! PROOFS, the cipher as a function. Each round of a command undoes one of the other (R94), and a byte of ENC is computed in
a lane of its own (R95). -/

open Sys2Proof.Statements

namespace Sys2Proof.Machine

/-! ### Rounds undone (R94) -/

/-- R89: C.ARK with slice r again goes back from round r of ENC to its row shift. -/
theorem addRoundKey_encRounds (p : Params) (rk : Vector Byte 176) (v : Vector Byte 16) (r : Fin 11) (h : 1 ≤ r.val) :
    addRoundKey (encRounds p rk v r.val) rk r = shiftRows (substitute p.sbox (encRounds p rk v (r.val - 1))) := by
  rw [← encRounds_round p rk v r h, addRoundKey_addRoundKey]

/-- R90: C.ARK with slice r again goes back from that round of DEC to its substitution. -/
theorem addRoundKey_decRounds (p : Params) (rk : Vector Byte 176) (v : Vector Byte 16) (r : Fin 11) (h : r.val ≤ 9) :
    addRoundKey (decRounds p rk v (10 - r.val)) rk r =
      substitute p.invSbox (invShiftRows (decRounds p rk v (9 - r.val))) := by
  rw [← decRounds_round p rk v r h, addRoundKey_addRoundKey]

/-- R94: n rounds of DEC on a result of ENC leave the last ENC round of the 10 - n that remain without its C.ARK. -/
theorem decRounds_encBlock {p : Params} (hp : p.wf = true) (rk : Vector Byte 176) (v : Vector Byte 16) {n : Nat}
    (hn : n ≤ 9) : decRounds p rk (encBlock p rk v) n = shiftRows (substitute p.sbox (encRounds p rk v (9 - n))) := by
  induction n with
  | zero => exact addRoundKey_encRounds p rk v 10 (by decide)
  | succ n ih =>
    have hr : (Fin.ofNat 11 (9 - n)).val = 9 - n := Nat.mod_eq_of_lt (by omega)
    have hundo := addRoundKey_encRounds p rk v (Fin.ofNat 11 (9 - n)) (by omega)
    rw [hr] at hundo
    rw [decRounds, decRound, ih (by omega), invShiftRows_shiftRows, substitute_invSbox_sbox hp, hundo, Nat.sub_sub]

/-- R94: n rounds of ENC on a result of DEC leave the last DEC round of the 10 - n that remain without its C.ARK. -/
theorem encRounds_decBlock {p : Params} (hp : p.wf = true) (rk : Vector Byte 176) (v : Vector Byte 16) {n : Nat}
    (hn : n ≤ 9) :
    encRounds p rk (decBlock p rk v) n = substitute p.invSbox (invShiftRows (decRounds p rk v (9 - n))) := by
  induction n with
  | zero => exact addRoundKey_decRounds p rk v 0 (by decide)
  | succ n ih =>
    have hr : (Fin.ofNat 11 (n + 1)).val = n + 1 := Nat.mod_eq_of_lt (by omega)
    have hundo := addRoundKey_decRounds p rk v (Fin.ofNat 11 (n + 1)) (by omega)
    rw [hr, show 10 - (n + 1) = 9 - n by omega] at hundo
    rw [encRounds, encRound, ih (by omega), substitute_sbox_invSbox hp, shiftRows_invShiftRows, hundo]

/-- R94: DEC undoes ENC. The last round of DEC ends with slice 0, which undoes the whitening. -/
theorem decBlock_encBlock {p : Params} (hp : p.wf = true) (rk : Vector Byte 176) (v : Vector Byte 16) :
    decBlock p rk (encBlock p rk v) = v :=
  calc decBlock p rk (encBlock p rk v)
      = decRound p rk 0 (shiftRows (substitute p.sbox (encRounds p rk v 0))) :=
        congrArg (decRound p rk 0) (decRounds_encBlock hp rk v le_rfl)
    _ = addRoundKey (addRoundKey v rk 0) rk 0 := by
        rw [decRound, invShiftRows_shiftRows, substitute_invSbox_sbox hp, encRounds]
    _ = v := addRoundKey_addRoundKey v rk 0

/-- R94: ENC undoes DEC. The last round of ENC ends with slice 10, which undoes the whitening. -/
theorem encBlock_decBlock {p : Params} (hp : p.wf = true) (rk : Vector Byte 176) (v : Vector Byte 16) :
    encBlock p rk (decBlock p rk v) = v :=
  calc encBlock p rk (decBlock p rk v)
      = encRound p rk 10 (substitute p.invSbox (invShiftRows (decRounds p rk v 0))) :=
        congrArg (encRound p rk 10) (encRounds_decBlock hp rk v le_rfl)
    _ = addRoundKey (addRoundKey v rk 10) rk 10 := by
        rw [encRound, substitute_sbox_invSbox hp, shiftRows_invShiftRows, decRounds]
    _ = v := addRoundKey_addRoundKey v rk 10

/-! ### Lanes (R95) -/

/-- R89: a byte of round n + 1 of ENC, from one byte of the round before it. -/
theorem encRounds_succ_get (p : Params) (rk : Vector Byte 176) (v : Vector Byte 16) (n : Nat) (i : Fin 16) :
    (encRounds p rk v (n + 1))[i] =
      lookup p.sbox (encRounds p rk v n)[shiftIndex i] ^^^ sliceByte rk (Fin.ofNat 11 (n + 1)) i := by
  rw [encRounds, encRound, addRoundKey_get, shiftRows_get, substitute_get]

/-- R95: byte i after n rounds depends on one byte of the block and on one byte of each slice used so far. -/
theorem encRounds_get_congr {p : Params} {rk rk' : Vector Byte 176} {v v' : Vector Byte 16} {n : Nat} (hn : n ≤ 10)
    {i : Fin 16} (hv : v[shiftIndex^[n] i] = v'[shiftIndex^[n] i])
    (hrk : ∀ r : Fin 11, r.val ≤ n →
      sliceByte rk r (shiftIndex^[n - r.val] i) = sliceByte rk' r (shiftIndex^[n - r.val] i)) :
    (encRounds p rk v n)[i] = (encRounds p rk' v' n)[i] := by
  induction n generalizing i with
  | zero =>
    rw [encRounds, encRounds, addRoundKey_get, addRoundKey_get]
    exact congrArg₂ _ hv (hrk 0 le_rfl)
  | succ n ih =>
    have hlast : sliceByte rk (Fin.ofNat 11 (n + 1)) i = sliceByte rk' (Fin.ofNat 11 (n + 1)) i := by
      have hr : (Fin.ofNat 11 (n + 1)).val = n + 1 := Nat.mod_eq_of_lt (by omega)
      have h := hrk (Fin.ofNat 11 (n + 1)) hr.le
      rw [hr, Nat.sub_self] at h
      exact h
    have hbefore : (encRounds p rk v n)[shiftIndex i] = (encRounds p rk' v' n)[shiftIndex i] := by
      refine ih (by omega) hv fun r hr => ?_
      have h := hrk r (by omega)
      rwa [Nat.succ_sub hr, Function.iterate_succ_apply] at h
    rw [encRounds_succ_get, encRounds_succ_get, hbefore, hlast]

/-- R95, R184: under RK_TAIL_ZERO byte i after n rounds is n lookups from one byte of the block and one of the key. -/
theorem encRounds_zeroTail_get (p : Params) (key v : Vector Byte 16) {n : Nat} (hn : n ≤ 10) (i : Fin 16) :
    (encRounds p (roundKeys key zeroTail) v n)[i] =
      (lookup p.sbox)^[n] (v[shiftIndex^[n] i] ^^^ key[shiftIndex^[n] i]) := by
  induction n generalizing i with
  | zero => rw [encRounds, addRoundKey_get, roundKeys_key]; rfl
  | succ n ih =>
    have hr : 1 ≤ (Fin.ofNat 11 (n + 1)).val := by simp [Fin.ofNat]; omega
    rw [encRounds, encRound, addRoundKey_zeroTail _ _ hr, shiftRows_get, substitute_get, ih (by omega),
      Function.iterate_succ_apply' (lookup p.sbox)]
    rfl

end Sys2Proof.Machine

namespace Sys2Proof.Proofs

open Sys2Proof.Machine

/-- Settles O55: round by round each command undoes the other; with 0x00 in the whole tail for ENC and 0x01 for DEC the
zero block does not come back. -/
theorem roundTripNeedsOneTail : Obligations.RoundTripNeedsOneTail :=
  ⟨fun _ rk v hp => ⟨decBlock_encBlock hp rk v, encBlock_decBlock hp rk v⟩,
    .replicate 16 0, .replicate 16 0, zeroTail, .replicate 160 1, by decide +kernel⟩

/-- Settles O56: ten rounds of the lanes. -/
theorem encLanesAreIndependent : Obligations.EncLanesAreIndependent := by
  refine ⟨shiftIndex_iterate_ten, fun p rk rk' v v' i hv hrk => ?depends, fun p key v i => ?zero⟩
  case depends =>
    simp only [← shiftIndex_iterate_ten] at hv
    exact encRounds_get_congr le_rfl hv fun r _ => hrk r
  case zero =>
    simp only [← shiftIndex_iterate_ten]
    exact encRounds_zeroTail_get p key v le_rfl i

end Sys2Proof.Proofs
end

section
/-! PROOFS, the digest's data. What the padding, the block's words, the sub-round, the addition and the rendered digits are in
numbers and bit by bit, and what each micro-operation of DIG writes and leaves alone (R110 to R123). -/

open Sys2Proof.Statements

namespace Sys2Proof.Machine

/-! ### Bytes and words as numbers (R7, R42, R43) -/

theorem byteOf_toNat {w : Nat} (v : BitVec w) (k : Nat) : (byteOf v k).toNat = v.toNat / 256 ^ k % 256 := by
  rw [byteOf, BitVec.extractLsb'_toNat, Nat.shiftRight_eq_div_pow, Nat.pow_mul]

theorem byteOf_eq_ofNat {w : Nat} (v : BitVec w) (k : Nat) : byteOf v k = BitVec.ofNat 8 (v.toNat / 256 ^ k) :=
  BitVec.eq_of_toNat_eq (by rw [byteOf_toNat, BitVec.toNat_ofNat])

/-- R42: byte k of the length field is byte k of BITLEN. -/
theorem lengthField_get (u : BitVec 64) {k : Nat} (h : k < 8) : (lengthField u)[k]? = some (byteOf u k) := by
  interval_cases k <;> rfl

/-- A byte laid below a value. -/
theorem toNat_append_byte {w : Nat} (x : BitVec w) (b : Byte) : (x ++ b).toNat = 256 * x.toNat + b.toNat := by
  rw [BitVec.toNat_append, ← Nat.shiftLeft_add_eq_or_of_lt b.isLt, Nat.shiftLeft_eq, Nat.mul_comm]

/-- R43: a word from its bytes, least significant first. -/
theorem le32_toNat (b0 b1 b2 b3 : Byte) :
    (le32 b0 b1 b2 b3).toNat = b0.toNat + 256 * b1.toNat + 65536 * b2.toNat + 16777216 * b3.toNat := by
  simp only [le32, toNat_append_byte]
  omega

/-! ### The padded message (R111, R112, R113) -/

/-- R112: no smaller number of whole blocks has room for the marker and the length field. -/
theorem paddedLength_le {n m : Nat} (hm : m % 64 = 0) (h : n + 9 ≤ m) : paddedLength n ≤ m := by
  unfold paddedLength; omega

/-- R112: the zero bytes between the marker and the length field bring the total to 56 modulo 64. -/
theorem paddedLength_zeros (n : Nat) : (paddedLength n : Int) = n + 1 + (55 - (n : Int)) % 64 + 8 := by
  unfold paddedLength; omega

/-- R112: the length field goes to a block of its own where the last block of the message has no room for it. -/
theorem paddedLength_cases (n : Nat) :
    paddedLength n = if n % 64 ≤ 55 then 64 * (n / 64) + 64 else 64 * (n / 64) + 128 := by
  unfold paddedLength; split <;> omega

/-- R111: the length in bits wraps. -/
theorem bitLength_toNat (len : BitVec 64) : (bitLength len).toNat = len.toNat * 8 % 2 ^ 64 :=
  BitVec.toNat_mul len 8

section
variable {msg : List Byte} {len : BitVec 64} (hm : msg.length = len.toNat)
include hm

/-- R113: the padded message begins with the message. -/
theorem padMessage_get_message {j : Nat} (h : j < len.toNat) : (padMessage msg len)[j]? = msg[j]? := by
  rw [← hm] at h
  simp only [padMessage, List.append_assoc]
  exact List.getElem?_append_left h

/-- R113: the marker follows the message. -/
theorem padMessage_get_marker : (padMessage msg len)[len.toNat]? = some 0x80 := by
  simp [padMessage, ← hm]

/-- R113: zero bytes follow the marker, up to the length field. -/
theorem padMessage_get_zero {j : Nat} (h : len.toNat < j) (h' : j + 9 ≤ paddedLength len.toNat) :
    (padMessage msg len)[j]? = some 0x00 := by
  obtain ⟨k, rfl⟩ : ∃ k, j = msg.length + 1 + k := ⟨j - (msg.length + 1), by omega⟩
  have hk : k < (List.replicate (paddedLength len.toNat - len.toNat - 9) (0 : Byte)).length := by
    rw [List.length_replicate]; omega
  have hstart : (msg ++ [0x80]).length = msg.length + 1 := List.length_append
  rw [padMessage, List.append_assoc, ← hstart, List.getElem?_append_right (by omega), Nat.add_sub_cancel_left,
    List.getElem?_append_left hk, List.getElem?_eq_getElem hk, List.getElem_replicate]

/-- R113: the length field is the last eight bytes. -/
theorem padMessage_get_lengthField {k : Nat} (h : k < 8) :
    (padMessage msg len)[paddedLength len.toNat - 8 + k]? = some (byteOf (bitLength len) k) := by
  rw [← List.getElem?_drop, padMessage_drop hm, lengthField_get _ h]

end

/-! ### The words of a block (R115) -/

theorem padByte_of_getElem? {b : List Byte} {i : Nat} {v : Byte} (h : b[i]? = some v) : padByte b i = v := by
  simp [padByte, List.getD, h]

/-! ### The stage functions and the rotation (R117 to R121) -/

/-- R117: a choice between c and d. -/
theorem stageF_getLsbD (b c d : Word) (k : Nat) (hk : k < 32) :
    (stageF b c d).getLsbD k = if b.getLsbD k then c.getLsbD k else d.getLsbD k := by
  simp only [stageF, BitVec.getLsbD_or, BitVec.getLsbD_and, BitVec.getLsbD_not, hk, decide_true, Bool.true_and]
  cases b.getLsbD k <;> simp

/-- R118: a choice between b and c. -/
theorem stageG_getLsbD (b c d : Word) (k : Nat) (hk : k < 32) :
    (stageG b c d).getLsbD k = if d.getLsbD k then b.getLsbD k else c.getLsbD k := by
  simp only [stageG, BitVec.getLsbD_or, BitVec.getLsbD_and, BitVec.getLsbD_not, hk, decide_true, Bool.true_and]
  cases d.getLsbD k <;> simp

theorem stageH_getLsbD (b c d : Word) (k : Nat) :
    (stageH b c d).getLsbD k = ((b.getLsbD k ^^ c.getLsbD k) ^^ d.getLsbD k) := by
  simp [stageH]

theorem stageI_getLsbD (b c d : Word) (k : Nat) (hk : k < 32) :
    (stageI b c d).getLsbD k = (c.getLsbD k ^^ (b.getLsbD k || !d.getLsbD k)) := by
  simp [stageI, hk]

/-- R154: the amounts of the table S. -/
theorem rotAmount_bounds (i : Fin 64) : 4 ≤ rotAmount i ∧ rotAmount i ≤ 23 := by
  revert i; decide

/-- R121: bit k of the rotated word is bit (k - n) mod 32 of the word. -/
theorem rotl32_getLsbD (x : Word) {n : Nat} (hn : n ≤ 31) {k : Nat} (hk : k < 32) :
    (rotl32 x n).getLsbD k = x.getLsbD ((k + 32 - n) % 32) := by
  rw [rotl32, BitVec.getLsbD_rotateLeft, Nat.mod_eq_of_lt (by omega : n < 32)]
  by_cases h : k < n
  · rw [show (k + 32 - n) % 32 = 32 - n + k by omega]; simp [h]
  · rw [show (k + 32 - n) % 32 = k - n by omega]; simp [h, hk]

/-- R121: the bits shifted out come back below the others, where there are zeros. -/
theorem rotl32_toNat (x : Word) {n : Nat} (hn : n ≤ 31) :
    (rotl32 x n).toNat = (x.toNat * 2 ^ n) % 2 ^ 32 + x.toNat / 2 ^ (32 - n) := by
  have hpow : 2 ^ 32 = 2 ^ n * 2 ^ (32 - n) := by rw [← Nat.pow_add]; congr 1; omega
  have hhigh : x.toNat * 2 ^ n % 2 ^ 32 = 2 ^ n * (x.toNat % 2 ^ (32 - n)) := by
    rw [Nat.mul_comm, hpow, Nat.mul_mod_mul_left]
  have hlow : x.toNat / 2 ^ (32 - n) < 2 ^ n := Nat.div_lt_of_lt_mul (by rw [Nat.mul_comm, ← hpow]; exact x.isLt)
  rw [rotl32, BitVec.toNat_rotateLeft, Nat.mod_eq_of_lt (by omega : n < 32), Nat.shiftLeft_eq,
    Nat.shiftRight_eq_div_pow, hhigh, Nat.two_pow_add_eq_or_of_lt hlow]

/-! ### The sub-round (R116) -/

/-- R116: the four stages, sixteen sub-rounds each. -/
theorem stageOf_cases (i : Fin 64) : i.val < 16 ∧ stageOf i = 0 ∨ (16 ≤ i.val ∧ i.val < 32) ∧ stageOf i = 1 ∨
    (32 ≤ i.val ∧ i.val < 48) ∧ stageOf i = 2 ∨ 48 ≤ i.val ∧ stageOf i = 3 := by
  unfold stageOf; omega

theorem stageFn_stageOf (i : Fin 64) (b c d : Word) : stageFn (stageOf i) b c d = stageValue i.val b c d := by
  obtain ⟨h, e⟩ | ⟨⟨h, h'⟩, e⟩ | ⟨⟨h, h'⟩, e⟩ | ⟨h, e⟩ := stageOf_cases i <;> rw [e, stageValue]
  · rw [if_pos h]; rfl
  · rw [if_neg (by omega), if_pos h']; rfl
  · rw [if_neg (by omega), if_neg (by omega), if_pos h']; rfl
  · rw [if_neg (by omega), if_neg (by omega), if_neg (by omega)]; rfl

theorem messageIndex_val (i : Fin 64) : (messageIndex i).val = stageWord i.val := by
  revert i; decide

/-- R116: the sum that a sub-round rotates. -/
def subRoundSum (x : Vector Word 16) (i : Fin 64) (w : Quad) : Word :=
  w.a + stageFn (stageOf i) w.b w.c w.d + tableK[i] + x[messageIndex i]

theorem subRound_eq (x : Vector Word 16) (i : Fin 64) (w : Quad) : subRound x i w =
    { a := w.d, b := w.b + rotl32 (subRoundSum x i w) (rotAmount i), c := w.b, d := w.c } := rfl

theorem subRoundSum_toNat (x : Vector Word 16) (i : Fin 64) (w : Quad) : (subRoundSum x i w).toNat =
    (w.a.toNat + (stageValue i.val w.b w.c w.d).toNat + tableK[i].toNat + x[messageIndex i].toNat) % 2 ^ 32 := by
  rw [subRoundSum, stageFn_stageOf]
  simp only [BitVec.toNat_add, Nat.mod_add_mod]

/-! ### The rendered digits (R44, R123) -/

/-- R123: the code of a digit. -/
theorem hexDigit_toNat {v : Nat} (h : v < 16) : (hexDigit v).toNat = digitCode v := by
  interval_cases v <;> rfl

/-- R44: the digest's bytes are those of the words in state order, each word's least significant first. -/
theorem digestByte_toNat (q : Quad) (w k : Fin 4) : (digestByte q (4 * w.val + k.val)).toNat =
    (#v[q.a, q.b, q.c, q.d] : Vector Word 4)[w].toNat / 256 ^ k.val % 256 := by
  have hw : (4 * w.val + k.val) / 4 = w.val := by omega
  have hk : (4 * w.val + k.val) % 4 = k.val := by omega
  rw [digestByte, hw, hk]
  fin_cases w <;> exact byteOf_toNat _ k.val

/-- R123: the two characters of a digest byte, the high nibble first. -/
theorem renderHex_digits (q : Quad) (m : Nat) (h : m < 16) :
    (renderHex q)[2 * m].toNat = digitCode ((digestByte q m).toNat / 16) ∧
      (renderHex q)[2 * m + 1].toNat = digitCode ((digestByte q m).toNat % 16) := by
  have hb := (digestByte q m).isLt
  rw [renderHex_get, renderHex_get, if_pos (by omega), if_neg (by omega), show 2 * m / 2 = m by omega,
    show (2 * m + 1) / 2 = m by omega]
  exact ⟨hexDigit_toNat (by omega), hexDigit_toNat (by omega)⟩

/-! ### Where a turn of DIG leaves the sequencer (R32) -/

/-- R114: no turn of DIG leads to PADGEN, and only the turn in PADGEN leads to INIT. -/
theorem Dig.phase_afterTurn (p : Params) (d : Dig) :
    (d.afterTurn p).phase ≠ .padgen ∧ ((d.afterTurn p).phase = .init → d.phase = .padgen) := by
  cases hp : d.phase
  case padgen =>
    refine ⟨?_, fun _ => rfl⟩
    simp only [Dig.afterTurn, hp, raiseAllocationFailure]
    split <;> simp
  case step =>
    obtain ⟨q, j, e, ⟨rfl, -⟩ | ⟨rfl, -⟩⟩ := afterStep_cases (d.setWork (subRound d.x d.i d.work)) <;>
      simp [Dig.afterTurn, hp, e]
  case addback =>
    obtain ⟨q, n, e, ⟨rfl, -⟩ | ⟨rfl, -⟩⟩ := afterAddback_cases (d.setAcc (d.acc.add d.work)) <;>
      simp [Dig.afterTurn, hp, e]
  all_goals simp [Dig.afterTurn, hp]

end Sys2Proof.Machine

namespace Sys2Proof.Proofs

open Sys2Proof.Machine

/-- Settles O19. -/
theorem paddedLengthIsSmallest : Obligations.PaddedLengthIsSmallest :=
  ⟨fun n => ⟨(paddedLength_blocks n).symm ▸ Nat.mul_mod_right 64 _, (paddedLength_bounds n).1, fun _ => paddedLength_le,
    paddedLength_zeros n, paddedLength_cases n, blockCount_pos n⟩, by decide⟩

/-- Settles O20: the padded message, part by part. -/
theorem padgenWritesThePaddedMessage : Obligations.PadgenWritesThePaddedMessage := by
  refine ⟨fun s hf => ?fails, fun s hm hf => ?fits⟩
  case fails =>
    exact ⟨_, exec_dPadgen_fails (by simpa using mt fitsBuffer_iff.mp (not_not.mpr hf)), rfl, rfl, rfl⟩
  case fits =>
    exact ⟨_, exec_dPadgen_fits (fitsBuffer_iff.mpr hf), bitLength_toNat _, rfl, padMessage_length hm,
      fun _ => padMessage_get_message hm, padMessage_get_marker hm, fun _ => padMessage_get_zero hm,
      fun k hk => (padMessage_get_lengthField hm hk).trans (congrArg some (byteOf_eq_ofNat _ k)), rfl⟩

/-- Settles O22. -/
theorem initLoadsTheIv : Obligations.InitLoadsTheIv := by
  refine ⟨fun s t h => ?_, fun s => ⟨_, exec_dInit s, rfl, rfl⟩⟩
  rw [digTurn_eq, Host.Outcome.next.injEq] at h
  exact h ▸ Dig.phase_afterTurn s.params s.dig

/-- Settles O23: a byte inside the buffer is the one D.LOADX reads. -/
theorem loadxAssemblesTheBlock : Obligations.LoadxAssemblesTheBlock := by
  intro s
  refine ⟨_, exec_dLoadx s, rfl, fun j b0 b1 b2 b3 h0 h1 h2 h3 => ?_, rfl⟩
  rw [blockWords_get, padByte_of_getElem? h0, padByte_of_getElem? h1, padByte_of_getElem? h2, padByte_of_getElem? h3,
    le32_toNat]

/-- Settles O24: the sequencer after D.STEP moves D_I and the phase only, and the amount is one that rotates. -/
theorem stepDoesOneSubRound : Obligations.StepDoesOneSubRound := by
  intro s
  obtain ⟨p, j, e, -⟩ := afterStep_cases { s.dig with work := subRound s.dig.x s.dig.i s.dig.work }
  refine ⟨_, s.dig.x[messageIndex s.dig.i], (subRoundSum s.dig.x s.dig.i s.dig.work).toNat, exec_dStep s, fun g hg => ?word,
    subRoundSum_toNat _ _ _, ?_⟩
  case word => rw [Fin.ext (hg.trans (messageIndex_val s.dig.i).symm)]
  have hrot := rotl32_toNat (subRoundSum s.dig.x s.dig.i s.dig.work) (n := rotAmount s.dig.i)
    ((rotAmount_bounds s.dig.i).2.trans (by decide))
  rw [e, subRound_eq]
  refine ⟨?_, rfl, rfl, rfl, rfl⟩
  rw [← hrot]
  exact BitVec.toNat_add _ _

/-- Settles O25. -/
theorem stageFunctionsBitByBit : Obligations.StageFunctionsBitByBit :=
  fun b c d k hk => ⟨stageF_getLsbD b c d k hk, stageG_getLsbD b c d k hk, stageH_getLsbD b c d k, stageI_getLsbD b c d k hk⟩

/-- Settles O26. -/
theorem rotationBitByBit : Obligations.RotationBitByBit :=
  ⟨rotAmount_bounds, fun x _ _ hn => ⟨fun _ => rotl32_getLsbD x hn, rotl32_toNat x hn⟩⟩

/-- Settles O27: the sequencer after D.ADDBACK moves D_BLK and the phase only. -/
theorem addbackAddsModulo : Obligations.AddbackAddsModulo := by
  intro s
  obtain ⟨p, n, e, -⟩ := afterAddback_cases { s.dig with acc := s.dig.acc.add s.dig.work }
  refine ⟨_, exec_dAddback s, ?_⟩
  rw [e]
  exact ⟨BitVec.toNat_add _ _, BitVec.toNat_add _ _, BitVec.toNat_add _ _, BitVec.toNat_add _ _, rfl⟩

/-- Settles O28: byte k of word w is byte 4w + k of the digest. -/
theorem renderWritesLowercaseHex : Obligations.RenderWritesLowercaseHex := by
  refine fun s => ⟨_, exec_dRender s, fun w k v hv => ?_, rfl⟩
  have h := renderHex_digits s.dig.acc (4 * w.val + k.val) (by omega)
  rw [digestByte_toNat, ← hv] at h
  simpa only [Nat.mul_add, ← Nat.mul_assoc] using h

end Sys2Proof.Proofs
end

section
/-! PROOFS, the stream of HASH. The micro-operations that a DIG unit has left to run are a function of where its sequencer
stands, and each turn runs the first of them (R32, R124). -/

open Sys2Proof.Statements

namespace Sys2Proof.Machine

/-- R124: the micro-operations of a block from sub-round i on. -/
def blockUopsFrom (i : Nat) : List Instr :=
  List.replicate (64 - i) .dStep ++ [.dAddback]

/-- R124: the last n blocks of a command, and its D.RENDER. -/
def lastBlocksUops (n : Nat) : List Instr :=
  (List.replicate n (.dLoadx :: blockUopsFrom 0)).flatten ++ [.dRender]

theorem lastBlocksUops_succ (n : Nat) : lastBlocksUops (n + 1) = .dLoadx :: blockUopsFrom 0 ++ lastBlocksUops n := by
  simp [lastBlocksUops, List.replicate_succ]

theorem blockUopsFrom_succ {i : Nat} (h : i < 64) : blockUopsFrom i = .dStep :: blockUopsFrom (i + 1) := by
  rw [blockUopsFrom, show 64 - i = 64 - (i + 1) + 1 by omega, List.replicate_succ]; rfl

/-- R31: the blocks that follow the one D_BLK names. -/
def Dig.blocksLeft (d : Dig) : Nat :=
  blockCount d.plen - (d.blk + 1)

/-- R124: the micro-operations that a DIG unit has left to the end of its command. -/
def Dig.uopsLeft (p : Params) (d : Dig) : List Instr :=
  match d.phase with
  | .idle => []
  | .padgen =>
    if fitsBuffer p.padCap (paddedLength d.len.toNat) then
      [.dPadgen, .dInit] ++ lastBlocksUops (blockCount (paddedLength d.len.toNat))
    else [.dPadgen]
  | .init => [.dInit] ++ lastBlocksUops (blockCount d.plen)
  | .loadx => lastBlocksUops (d.blocksLeft + 1)
  | .step => blockUopsFrom d.i.val ++ lastBlocksUops d.blocksLeft
  | .addback => [.dAddback] ++ lastBlocksUops d.blocksLeft
  | .render => [.dRender]

@[simp] theorem Dig.uopsLeft_setWork (p : Params) (d : Dig) (q : Quad) : (d.setWork q).uopsLeft p = d.uopsLeft p := rfl
@[simp] theorem Dig.uopsLeft_setAcc (p : Params) (d : Dig) (q : Quad) : (d.setAcc q).uopsLeft p = d.uopsLeft p := rfl

/-- R32: D.STEP is the first of what is left, and the rest is left after it. -/
theorem Dig.uopsLeft_afterStep (p : Params) {d : Dig} (hp : d.phase = .step) :
    d.uopsLeft p = .dStep :: (afterStep d).uopsLeft p := by
  simp only [Dig.uopsLeft, hp, blockUopsFrom_succ d.i.isLt]
  by_cases hi : d.i.val < 63
  · simp [afterStep_next hi, Dig.blocksLeft]
  · have ht : d.i.val = 63 := by omega
    simp [afterStep_last ht, Dig.blocksLeft, ht, blockUopsFrom]

/-- R32: D.ADDBACK is the first of what is left, and the rest is left after it. -/
theorem Dig.uopsLeft_afterAddback (p : Params) {d : Dig} (hp : d.phase = .addback) :
    d.uopsLeft p = .dAddback :: (afterAddback d).uopsLeft p := by
  simp only [Dig.uopsLeft, hp, Dig.blocksLeft]
  by_cases hl : d.blk + 1 < blockCount d.plen
  · have hn : blockCount d.plen - (d.blk + 1) = blockCount d.plen - (d.blk + 1 + 1) + 1 := by omega
    simp [afterAddback_next hl, hn]
  · have hn : blockCount d.plen - (d.blk + 1) = 0 := by omega
    simp [afterAddback_last (Nat.not_lt.mp hl), hn, lastBlocksUops]

/-- R32: the micro-operation that a phase names is the first of what is left, and the rest is left after it. -/
theorem Dig.uopsLeft_afterTurn {p : Params} {d : Dig} {i : Instr} (h : d.Inv p) (hi : digUop d.phase = some i) :
    d.uopsLeft p = i :: (d.afterTurn p).uopsLeft p := by
  obtain ⟨-, hd⟩ := h
  cases hp : d.phase <;> simp only [hp, digUop, Option.some.injEq, reduceCtorEq] at hi <;> subst hi <;>
    simp only [Dig.dataOk, hp] at hd
  case padgen =>
    cases hf : fitsBuffer p.padCap (paddedLength d.len.toNat) <;>
      simp [Dig.uopsLeft, Dig.afterTurn, raiseAllocationFailure, hp, hf]
  case init =>
    obtain ⟨-, -, hplen, -⟩ := hd
    have hpos : blockCount d.plen = blockCount d.plen - 1 + 1 := by
      have := blockCount_pos d.len.toNat
      rw [hplen]; omega
    simp [Dig.uopsLeft, Dig.afterTurn, Dig.blocksLeft, hp, ← hpos]
  case step =>
    have h := Dig.uopsLeft_afterStep p (d := d.setWork (subRound d.x d.i d.work)) hp
    rw [Dig.uopsLeft_setWork] at h
    simpa only [Dig.afterTurn, hp] using h
  case addback =>
    have h := Dig.uopsLeft_afterAddback p (d := d.setAcc (d.acc.add d.work)) hp
    rw [Dig.uopsLeft_setAcc] at h
    simpa only [Dig.afterTurn, hp] using h
  all_goals simp [Dig.uopsLeft, Dig.afterTurn, Dig.blocksLeft, hp, lastBlocksUops_succ]

/-- R32: a turn's identifier, and those of the turns after it. -/
theorem digTrace_succ (n : Nat) {s : State} {i : Instr} (h : digUop s.dig.phase = some i) :
    digTrace (n + 1) s = encode i :: digTrace n (s.setDig (s.dig.afterTurn s.params)) := by
  simp only [digTrace, h, (digTurn_exec h).symm.trans (digTurn_eq s)]

/-- R124: with as many turns as the command has left, or more, DIG runs what is left and no more. -/
theorem digTrace_eq_uopsLeft (n : Nat) {s : State} (h : s.dig.Inv s.params) (hn : s.dig.turnsLeft s.params ≤ n) :
    digTrace n s = (s.dig.uopsLeft s.params).map encode := by
  induction n generalizing s with
  | zero =>
    have hp := (Dig.turnsLeft_eq_zero h).mp (Nat.le_zero.mp hn)
    simp only [digTrace, Dig.uopsLeft, hp, List.map_nil]
  | succ n ih =>
    cases hi : digUop s.dig.phase with
    | none =>
      have hp : s.dig.phase = .idle := by cases hp : s.dig.phase <;> simp [hp, digUop] at hi ⊢
      simp only [digTrace, Dig.uopsLeft, hp, digUop, List.map_nil]
    | some i =>
      have hleft : (s.dig.afterTurn s.params).turnsLeft s.params ≤ n := by
        rw [Dig.turnsLeft_afterTurn h]; omega
      rw [digTrace_succ n hi, Dig.uopsLeft_afterTurn h hi, List.map_cons,
        ih (s := s.setDig (s.dig.afterTurn s.params)) (Dig.afterTurn_inv h) hleft]
      rfl

/-- R18, R112: NBLK from the length. -/
theorem blockCount_paddedLength (n : Nat) : blockCount (paddedLength n) = (n + 8) / 64 + 1 := by
  simp [blockCount, paddedLength]

/-- R124: what is left of a HASH just issued whose padded message fits. -/
theorem Dig.uopsLeft_issuedDig {s : State} (hf : ¬ tooLong s.params s.ports.dLenIn) :
    s.issuedDig.uopsLeft s.params =
      [.dPadgen, .dInit] ++ lastBlocksUops ((s.ports.dLenIn.toNat + 8) / 64 + 1) := by
  simp [State.issuedDig, Dig.uopsLeft, fitsBuffer_iff.mpr hf, blockCount_paddedLength]

/-- R63: the identifiers of the last n blocks of a command. -/
theorem lastBlocksUops_map_encode (n : Nat) : (lastBlocksUops n).map encode =
    (List.replicate n ([(0x92 : Byte)] ++ List.replicate 64 0x93 ++ [0x94])).flatten ++ [0x95] := by
  have hblock : (Instr.dLoadx :: blockUopsFrom 0).map encode = [(0x92 : Byte)] ++ List.replicate 64 0x93 ++ [0x94] := rfl
  rw [lastBlocksUops, List.map_append, List.map_flatten, List.map_replicate, hblock]
  rfl

end Sys2Proof.Machine

namespace Sys2Proof.Proofs

open Sys2Proof.Machine

/-- Settles O47: the unit runs what is left after the issue step, which has 3 + 66 NBLK turns left. -/
theorem hashRunsItsSequence : Obligations.HashRunsItsSequence := by
  rintro s n hb hm hf rfl
  obtain ⟨hserves, hleft⟩ := Dig.serves_issuedDig hm hf
  have htrace := digTrace_eq_uopsLeft (3 + 66 * ((s.ports.dLenIn.toNat + 8) / 64 + 1) + 1) (s := s.setDig s.issuedDig)
    hserves.inv (hleft.le.trans (Nat.le_succ _))
  refine ⟨s.setDig s.issuedDig, issueDig_next.mpr ⟨hb, messageWf_iff.mpr hm, rfl⟩, htrace.trans ?_⟩
  rw [State.setDig_dig, State.setDig_params, Dig.uopsLeft_issuedDig hf, List.map_append, lastBlocksUops_map_encode,
    ← List.append_assoc]
  rfl

end Sys2Proof.Proofs
end

section
/-! PROOFS, the known digests (R110, R128). -/

namespace Sys2Proof.Proofs

/-- Settles O54: each message is one block, whose 64 sub-rounds the kernel evaluates. -/
theorem knownDigests : Obligations.KnownDigests := by
  unfold Obligations.KnownDigests
  decide +kernel

end Sys2Proof.Proofs
end

section
/-! PROOFS, the default substitution tables (R150 to R152). -/

namespace Sys2Proof.Machine

/-- R150, R151: INV_SBOX undoes SBOX, which the kernel checks byte by byte. -/
theorem leftInverse_lookup_defaultInvSbox : Function.LeftInverse (lookup defaultInvSbox) (lookup defaultSbox) := by
  unfold Function.LeftInverse
  decide +kernel

end Sys2Proof.Machine

namespace Sys2Proof.Proofs

open Sys2Proof.Machine

/-- Settles O35: bytes are finitely many, so a table that undoes SBOX on every byte is undone by it too. -/
theorem defaultTablesAreInverse : Obligations.DefaultTablesAreInverse :=
  ⟨leftInverse_lookup_defaultInvSbox, leftInverse_lookup_defaultInvSbox.rightInverse_of_card_le le_rfl⟩

end Sys2Proof.Proofs
end

section
/-! PROOFS, breaches of the host's contract, AllocationFailure and what a final state holds (R160, R163, R166, R167, R178). -/

open Sys2Proof.Statements

namespace Sys2Proof.Machine

/-! ### Breaches and invalid results (R163) -/

/-- R163 (c): the DIG issue step is refused where the length is not that of the message. -/
theorem issueDig_lengthMismatch {s : State} (hb : s.dig.busy = false)
    (hm : s.ports.dMsgIn.length ≠ s.ports.dLenIn.toNat) : issueDig s = .refused .lengthMismatch := by
  simp only [issueDig, hb, mt messageWf_iff.mp hm, Bool.false_eq_true, if_false]

/-- R33: when HEX is not valid. -/
theorem Dig.resultValid_eq_false_iff (d : Dig) : d.resultValid = false ↔ d.done = false ∨ d.err = true := by
  cases hd : d.done <;> simp [Dig.resultValid, hd]

/-! ### AllocationFailure (R160) -/

/-- R160: a message does not fit the buffer exactly when its padded length is larger. -/
theorem fitsBuffer_eq_false_iff {p : Params} {len : BitVec 64} :
    fitsBuffer p.padCap (paddedLength len.toNat) = false ↔ tooLong p len := by
  rw [← Bool.not_eq_true, fitsBuffer_iff, not_not]

/-- R6: an unbounded buffer holds every message. -/
theorem not_tooLong_of_unbounded {p : Params} (h : p.padCap = .unbounded) (len : BitVec 64) : ¬ tooLong p len := by
  rintro ⟨n, hn, -⟩
  cases h.symm.trans hn

theorem afterStep_err (d : Dig) : (afterStep d).err = d.err := by
  obtain ⟨p, j, hafter, -⟩ := afterStep_cases d
  rw [hafter]; rfl

theorem afterAddback_err (d : Dig) : (afterAddback d).err = d.err := by
  obtain ⟨p, n, hafter, -⟩ := afterAddback_cases d
  rw [hafter]; rfl

/-- R160: no operation but D.PADGEN raises the error; the issue step of HASH leaves it (R167), and the others keep D_ERR. -/
theorem exec_err {i : Instr} {s t : State} (hi : i ≠ .dPadgen) (h : exec i s = .next t) :
    t.dig.err = s.dig.err ∨ t.dig.err = false := by
  cases i with
  | dPadgen => exact absurd rfl hi
  | enc | dec => obtain ⟨-, rfl⟩ := issueCiph_next.mp h; exact .inl rfl
  | hash => obtain ⟨-, -, rfl⟩ := issueDig_next.mp h; exact .inr rfl
  | cLoadst | cKeyload | cArk | cSub | cShift | cIsub | cIshift | cOut | dInit | dLoadx | dStep | dAddback | dRender =>
    simp only [exec_cLoadst, exec_cKeyload, exec_cArk, exec_cSub, exec_cShift, exec_cIsub, exec_cIshift, exec_cOut,
      exec_dInit, exec_dLoadx, exec_dStep, exec_dAddback, exec_dRender, Host.Outcome.next.injEq] at h
    exact .inl (by simp only [← h, afterStep_err, afterAddback_err])

/-- R160, R166: the first turn of a HASH whose message does not fit ends it with AllocationFailure. -/
theorem Dig.afterTurn_issuedDig_fails {s : State} (hf : tooLong s.params s.ports.dLenIn) :
    s.issuedDig.afterTurn s.params = raiseAllocationFailure s.issuedDig :=
  if_neg (Bool.eq_false_iff.mp (fitsBuffer_eq_false_iff.mpr hf))

/-! ### A unit that is done (R178) -/

/-- R89, R90, R178: C_OUT of a done CIPH is the result for the key and the tail in RK. -/
theorem Ciph.result_of_done {p : Params} {c : Ciph} (h : c.Inv p) (hd : c.done = true) :
    ∃ tail, c.rk = roundKeys c.key tail ∧ c.out =
      if c.dir then decBlock p (roundKeys c.key tail) c.blk else encBlock p (roundKeys c.key tail) c.blk := by
  have hp := Ciph.idle_of_done h hd
  obtain ⟨-, hdata⟩ := h
  simp only [Ciph.dataOk, hp] at hdata
  obtain ⟨hkey, hout⟩ := hdata hd
  have hrk := eq_roundKeys hkey
  exact ⟨_, hrk, hrk ▸ hout⟩

/-- R110, R160, R178: a done DIG has the digest of its message in HEX, or reports AllocationFailure. -/
theorem Dig.result_of_done {p : Params} {d : Dig} (h : d.Inv p) (hd : d.done = true) :
    (d.err = false ∧ d.cause = 0 ∧ ¬ tooLong p d.len ∧ d.hex = digestHex d.msg d.len) ∨
      (d.err = true ∧ d.cause = 1 ∧ tooLong p d.len) := by
  have hp := Dig.idle_of_done h hd
  obtain ⟨hs, hdata⟩ := h
  obtain ⟨-, -, hcause⟩ := (Dig.sequencerOk_idle hp).mp hs
  simp only [Dig.dataOk, hp] at hdata
  obtain ⟨-, hres⟩ := hdata hd
  cases he : d.err <;> simp only [he, Bool.false_eq_true, if_false, if_true] at hcause hres
  case false => exact .inl ⟨rfl, hcause, fitsBuffer_iff.mp hres.2, hres.1⟩
  case true => exact .inr ⟨rfl, hcause, fitsBuffer_eq_false_iff.mp hres⟩

end Sys2Proof.Machine

namespace Sys2Proof.Proofs

open Sys2Proof.Machine

/-- Settles O9: each breach is refused by the issue step or by the decoder of the port, and an invalid read is a draw. -/
theorem contractBreachesAreRefused : Obligations.ContractBreachesAreRefused := by
  intro s
  refine ⟨?cBusy, fun hb => (step_writeCmd (i := .hash) rfl s).trans (issueDig_busy hb),
    fun b h0 h1 => reservedCommandIsRefused s .cCmd b (fun _ => ⟨h0, h1⟩) nofun,
    fun b h => reservedCommandIsRefused s .dCmd b nofun fun _ => h,
    fun hb hm => (step_writeCmd (i := .hash) rfl s).trans (issueDig_lengthMismatch hb hm), fun hd => ?block, fun hv => ?hex⟩
  case cBusy =>
    rintro hb b (rfl | rfl)
    · exact (step_writeCmd (i := .enc) rfl s).trans (issueCiph_busy hb)
    · exact (step_writeCmd (i := .dec) rfl s).trans (issueCiph_busy hb)
  case block => exact ⟨_, _, by rw [step_hostNext, hostMove, readBlockOut_invalid hd]; rfl⟩
  case hex =>
    exact ⟨_, _, by rw [step_hostNext, hostMove, readHexOut_invalid ((Dig.resultValid_eq_false_iff _).mpr hv)]; rfl⟩

/-- Settles O21: D.PADGEN fails exactly where the message does not fit, and no other operation sets D_ERR. -/
theorem padgenRaisesAllocationFailure : Obligations.PadgenRaisesAllocationFailure := by
  refine ⟨fun s hf => exec_dPadgen_fails (fitsBuffer_eq_false_iff.mpr hf),
    fun s hf => ⟨_, exec_dPadgen_fits (fitsBuffer_iff.mpr hf), rfl, rfl⟩,
    fun s hu => not_tooLong_of_unbounded hu s.dig.len, fun s t i hi h ht => ?_⟩
  obtain hkept | hcleared := exec_err hi h
  · exact hkept ▸ ht
  · exact absurd (ht.symm.trans hcleared) nofun

/-- Settles O45: the invariant says what a unit that is done holds. -/
theorem finalStateHoldsTheResults : Obligations.FinalStateHoldsTheResults :=
  fun _ ⟨hciph, hdig⟩ _ => ⟨Ciph.result_of_done hciph, Dig.result_of_done hdig⟩

/-- Settles O50: the issue step, one turn of DIG that fails, and the issue step of the next HASH. -/
theorem failedHashEndsAndRecovers : Obligations.FailedHashEndsAndRecovers := by
  intro s l hb hm hf
  refine ⟨_, _, ?_, rfl, (exec_hash _).trans (issueDig_next.mpr ⟨rfl, messageWf_iff.mpr hm, rfl⟩), rfl, rfl, rfl, rfl⟩
  rw [run_next 1 (step_hashCommand (s := { s with schedule := .dig :: l }) hb hm)]
  refine (run_next 0 (step_dig (s.setDig s.issuedDig) l)).trans ?_
  rw [State.setDig_dig, State.setDig_params, Dig.afterTurn_issuedDig_fails hf]
  rfl

end Sys2Proof.Proofs
end

section
/-! PROOFS, several instances (R6, R176). -/

namespace Sys2Proof.Machine

/-- R176: a step of one of the blocks that answers is that block's own step, put in its place. -/
theorem Platform.stepAt_next {extra : Nat} {p q : Platform extra} {k : Fin (extra + 1)} :
    p.stepAt k = .next q ↔ ∃ t, step p[k] = .next t ∧ q = p.set k t := by
  unfold Platform.stepAt
  cases step p[k] <;> simp [eq_comm]

end Sys2Proof.Machine

namespace Sys2Proof.Proofs

open Sys2Proof.Machine

/-- Settles O57: a step puts one element of the vector, and two puts in different places commute. -/
theorem instancesAreIndependent : Obligations.InstancesAreIndependent := by
  intro extra p q j k hjk hq
  obtain ⟨t, ht, rfl⟩ := Platform.stepAt_next.mp hq
  have hothers : ∀ {m i : Fin (extra + 1)} (x : State), m ≠ i → (p.set i x)[m] = p[m] := fun x hm =>
    Vector.getElem_set_ne _ _ (Fin.val_ne_of_ne hm.symm)
  refine ⟨ht.trans (congrArg _ (Vector.getElem_set_self _).symm), fun m => hothers t, fun r hr => ?_⟩
  obtain ⟨u, hu, rfl⟩ := Platform.stepAt_next.mp hr
  rw [hothers t hjk.symm] at hu
  refine ⟨p.set k u, Platform.stepAt_next.mpr ⟨u, hu, rfl⟩, Platform.stepAt_next.mpr ⟨t, ?_, ?_⟩⟩
  · rw [hothers u hjk, ht]
  · exact Vector.set_comm t u (Fin.val_ne_of_ne hjk)

end Sys2Proof.Proofs
end

section
/-! PROOFS, reset, the ports and liveness. RESET and a driven port as whole states (R180, R185); and in a weakly fair run a busy
unit, which only its own turns and RESET change, reaches the end of its command (R188). -/

namespace Sys2Proof.Machine

/-! ### Weak fairness (R188) -/

/-- A condition that each step of a run keeps, or ends as `Q` says, holds for ever or up to a step that ends it. -/
theorem IsRun.holds_until_or_forever {f : Nat → State} (hf : IsRun f) {P : State → Prop} {Q : State → State → Prop}
    (hstep : ∀ s t, step s = .next t → P s → Q s t ∨ P t) {n : Nat} (hn : P (f n)) :
    (∃ m, n ≤ m ∧ (∀ k, n ≤ k → k ≤ m → P (f k)) ∧ Q (f m) (f (m + 1))) ∨ ∀ m, n ≤ m → P (f m) := by
  refine or_iff_not_imp_left.mpr fun hnever m => ?_
  induction m using Nat.strong_induction_on with
  | _ m ih =>
    intro hm
    obtain rfl | hlt := hm.eq_or_lt
    · exact hn
    · obtain ⟨m, rfl⟩ : ∃ m', m = m' + 1 := ⟨m - 1, by omega⟩
      have hupto : ∀ k, n ≤ k → k ≤ m → P (f k) := fun k hk hkm => ih k (by omega) hk
      exact (hstep _ _ (hf m) (hupto m (by omega) le_rfl)).resolve_left fun hQ => hnever ⟨m, by omega, hupto, hQ⟩

/-- R188: in a weakly fair run, a condition that keeps agent `a` enabled, and that each step either ends as `Q` says or keeps,
with a measure that no step raises and a turn of `a` lowers, holds up to a step that ends it: the measure cannot fall for
ever, and where it has stopped falling a turn of `a` is still to come. -/
theorem FairRun.leadsTo {f : Nat → State} (hf : FairRun f) {a : Agent} {P : State → Prop} {Q : State → State → Prop}
    {μ : State → Nat} (henabled : ∀ s, P s → s.enabled a)
    (hstep : ∀ s t, step s = .next t → P s → Q s t ∨ P t ∧ μ t ≤ μ s ∧ (s.mover = a → μ t < μ s))
    {n : Nat} (hn : P (f n)) : ∃ m, n ≤ m ∧ (∀ k, n ≤ k → k ≤ m → P (f k)) ∧ Q (f m) (f (m + 1)) := by
  obtain ⟨hrun, hfair⟩ := hf
  obtain hends | hP := hrun.holds_until_or_forever (fun s t h hs => (hstep s t h hs).imp_right And.left) hn
  · exact hends
  by_contra hnever
  have hmeasure : ∀ m, n ≤ m → μ (f (m + 1)) ≤ μ (f m) ∧ ((f m).mover = a → μ (f (m + 1)) < μ (f m)) := fun m hm =>
    ((hstep _ _ (hrun m) (hP m hm)).resolve_left fun hQ => hnever ⟨m, hm, fun k hk _ => hP k hk, hQ⟩).2
  obtain ⟨k, hk⟩ := WellFoundedLT.antitone_chain_condition
    (antitone_add_nat_of_succ_le (f := fun m => μ (f m)) fun m hm => (hmeasure m hm).1)
  obtain ⟨m, hm, ha⟩ := hfair a (k + n) fun m hm => henabled _ (hP m (by omega))
  obtain ⟨j, rfl⟩ : ∃ j, m = j + n := ⟨m - n, by omega⟩
  have hfalls := (hmeasure (j + n) (by omega)).2 ha
  have hstays := (hk j (by omega)).symm.trans (hk (j + 1) (by omega))
  rw [Nat.add_right_comm] at hstays
  exact absurd hstays hfalls.ne'

/-! ### What a step does to a busy unit (R163, R177, R180) -/

/-- R10: a step is a turn of its mover, in the state with the turn used up. -/
theorem step_mover {s t : State} (h : step s = .next t) :
    ∃ l n, agentTurn s.mover ((s.setSchedule l).setDraws { s.draws with turns := n }) = .next t := by
  obtain ⟨l, n, e⟩ := takeTurn_state s
  exact ⟨l, n, e ▸ h⟩

theorem hostTurn_writeCmd {s : State} {p : CmdPort} {b : Byte} {rest : List HostAction}
    (hq : s.host.queue = .writeCmd p b :: rest) :
    hostTurn s = writeCommand p b (s.setHost { s.host with queue := rest }) := by
  simp only [hostTurn, hq, hostMove]

/-- R163, R177: a turn of the host that is not RESET leaves a busy CIPH alone, since an issue to it is refused. -/
theorem hostTurn_ciph_of_busy {s t : State} (h : hostTurn s = .next t) (hb : s.ciph.busy = true)
    (hreset : ∀ rest, s.host.queue ≠ .reset :: rest) : t.ciph = s.ciph := by
  refine hostTurn_ciph h hreset fun b rest hq => ?_
  obtain ⟨-, dir, hi⟩ | ⟨hp, -⟩ := writeCommand_next ((hostTurn_writeCmd hq).symm.trans h)
  · obtain ⟨hidle, -⟩ := issueCiph_next.mp hi
    exact absurd (hb.symm.trans hidle) nofun
  · cases hp

/-- R163, R177: so it does a busy DIG. -/
theorem hostTurn_dig_of_busy {s t : State} (h : hostTurn s = .next t) (hb : s.dig.busy = true)
    (hreset : ∀ rest, s.host.queue ≠ .reset :: rest) : t.dig = s.dig := by
  refine hostTurn_dig h hreset fun b rest hq => ?_
  obtain ⟨hp, -⟩ | ⟨-, hi⟩ := writeCommand_next ((hostTurn_writeCmd hq).symm.trans h)
  · cases hp
  · obtain ⟨hidle, -⟩ := issueDig_next.mp hi
    exact absurd (hb.symm.trans hidle) nofun

/-- R25, R180: a step other than RESET takes a busy CIPH through its own turn, if CIPH has it, and else leaves it alone. -/
theorem step_ciph_of_busy {s t : State} (h : step s = .next t) (hb : s.ciph.busy = true) (hreset : ¬ s.takesReset) :
    (s.mover = .ciph ∧ t.ciph = (ciphAdvance s.params (s.ciph, s.draws)).1) ∨ (s.mover ≠ .ciph ∧ t.ciph = s.ciph) := by
  obtain ⟨l, n, ht⟩ := step_mover h
  cases hm : s.mover <;> rw [hm] at ht
  case host =>
    have hqueue : ∀ rest, s.host.queue ≠ .reset :: rest := fun rest hq => hreset ⟨hm, rest, hq⟩
    exact .inr ⟨nofun, hostTurn_ciph_of_busy (s := (s.setSchedule l).setDraws _) ht hb hqueue⟩
  case ciph =>
    obtain rfl := Host.Outcome.next.inj ((ciphTurn_eq _).symm.trans ht)
    exact .inl ⟨rfl, rfl⟩
  case dig => exact .inr ⟨nofun, (digTurn_frame ht).1⟩

/-- R32, R180: so it is for DIG. -/
theorem step_dig_of_busy {s t : State} (h : step s = .next t) (hb : s.dig.busy = true) (hreset : ¬ s.takesReset) :
    (s.mover = .dig ∧ t.dig = s.dig.afterTurn s.params) ∨ (s.mover ≠ .dig ∧ t.dig = s.dig) := by
  obtain ⟨l, n, ht⟩ := step_mover h
  cases hm : s.mover <;> rw [hm] at ht
  case host =>
    have hqueue : ∀ rest, s.host.queue ≠ .reset :: rest := fun rest hq => hreset ⟨hm, rest, hq⟩
    exact .inr ⟨nofun, hostTurn_dig_of_busy (s := (s.setSchedule l).setDraws _) ht hb hqueue⟩
  case ciph => exact .inr ⟨nofun, (ciphTurn_frame ht).1⟩
  case dig =>
    obtain rfl := Host.Outcome.next.inj ((digTurn_eq _).symm.trans ht)
    exact .inl ⟨rfl, rfl⟩

/-! ### A unit in the course of its command (R25, R32) -/

/-- R24, R26: CIPH is busy exactly while it is not idle. -/
theorem Ciph.busy_iff {c : Ciph} (h : c.sequencerOk) : c.busy = true ↔ c.phase ≠ .idle := by
  refine ⟨fun hb hp => ?_, fun hp => (Ciph.flags_of_running hp h).1⟩
  simp [Ciph.sequencerOk, hp, hb] at h

/-- R31, R33: so is DIG. -/
theorem Dig.busy_iff {d : Dig} (h : d.sequencerOk) : d.busy = true ↔ d.phase ≠ .idle := h.2

/-- R26: the turn that leaves CIPH in IDLE sets DONE. -/
theorem Ciph.done_afterTurn {p : Params} {c : Ciph} (tail : Vector Byte 160) (hp : c.phase ≠ .idle)
    (hi : (c.afterTurn p tail).phase = .idle) : (c.afterTurn p tail).done = true := by
  cases hq : c.phase
  case idle => exact absurd hq hp
  case out => simp [Ciph.afterTurn, hq]
  case whiten | ark =>
    obtain ⟨q, r, e, hnext⟩ := afterArk_cases (c.setSt (addRoundKey c.st c.rk c.round))
    simp only [Ciph.afterTurn, hq, e] at hi
    rcases hnext with ⟨rfl, -⟩ | ⟨rfl, -⟩ | rfl <;> simp at hi
  all_goals simp [Ciph.afterTurn, hq] at hi

/-- R15: CIPH in the course of the command whose operands stand in the latches of `c₀`. -/
structure Ciph.Running (p : Params) (c₀ c : Ciph) : Prop where
  inv : c.Inv p
  busy : c.busy = true
  operands : c.blk = c₀.blk ∧ c.key = c₀.key ∧ c.dir = c₀.dir

/-- R26: CIPH done with that command. -/
def Ciph.Completed (c₀ c : Ciph) : Prop :=
  c.done = true ∧ c.busy = false ∧ c.blk = c₀.blk ∧ c.key = c₀.key ∧ c.dir = c₀.dir

/-- R17: DIG in the course of the command whose message stands in the latches of `d₀`. -/
structure Dig.Running (p : Params) (d₀ d : Dig) : Prop where
  inv : d.Inv p
  busy : d.busy = true
  operands : d.msg = d₀.msg ∧ d.len = d₀.len

/-- R33: DIG done with that command. -/
def Dig.Completed (d₀ d : Dig) : Prop :=
  d.done = true ∧ d.busy = false ∧ d.msg = d₀.msg ∧ d.len = d₀.len

/-- R25, R26: a turn in the course of a command completes it or brings it nearer to its end. -/
theorem Ciph.Running.advance {p : Params} {c₀ c : Ciph} (n : Draws) (h : Ciph.Running p c₀ c) :
    Ciph.Completed c₀ (ciphAdvance p (c, n)).1 ∨
      Ciph.Running p c₀ (ciphAdvance p (c, n)).1 ∧ (ciphAdvance p (c, n)).1.turnsLeft < c.turnsLeft := by
  obtain ⟨hinv, hb, hblk₀, hkey₀, hdir₀⟩ := h
  have hp := (Ciph.busy_iff hinv.1).mp hb
  obtain ⟨hblk, hkey, hdir⟩ := ciphAdvance_latches p (c, n)
  have hops := And.intro (hblk.trans hblk₀) (And.intro (hkey.trans hkey₀) (hdir.trans hdir₀))
  have hinv' : (ciphAdvance p (c, n)).1.Inv p := Ciph.afterTurn_inv _ hinv
  by_cases hi : (ciphAdvance p (c, n)).1.phase = .idle
  · have hidle := mt (Ciph.busy_iff hinv'.1).mp (not_not.mpr hi)
    exact .inl ⟨Ciph.done_afterTurn _ hp hi, Bool.eq_false_iff.mpr hidle, hops⟩
  · have hleft := mt (Ciph.turnsLeft_eq_zero c).mp hp
    have hnext := Ciph.turnsLeft_afterTurn (p := p) (tailOf p.tail n) hinv.1
    exact .inr ⟨⟨hinv', (Ciph.busy_iff hinv'.1).mpr hi, hops⟩, lt_of_eq_of_lt hnext (by omega)⟩

/-- R32, R33: so it is for DIG. -/
theorem Dig.Running.afterTurn {p : Params} {d₀ d : Dig} (h : Dig.Running p d₀ d) :
    Dig.Completed d₀ (d.afterTurn p) ∨ Dig.Running p d₀ (d.afterTurn p) ∧ (d.afterTurn p).turnsLeft p < d.turnsLeft p := by
  obtain ⟨hinv, hb, hops⟩ := h
  have hp := (Dig.busy_iff hinv.1).mp hb
  have hs : Dig.Serves p d₀ (d.afterTurn p) := (Dig.Serves.mk hinv hops (absurd · hp)).advance
  by_cases hi : (d.afterTurn p).phase = .idle
  · exact .inl ⟨hs.done hi, ((Dig.sequencerOk_idle hi).mp hs.inv.1).1, hs.latches⟩
  · have hleft := mt (Dig.turnsLeft_eq_zero hinv).mp hp
    exact .inr ⟨⟨hs.inv, (Dig.busy_iff hs.inv.1).mpr hi, hs.latches⟩, by rw [Dig.turnsLeft_afterTurn hinv]; omega⟩

/-- R180, R188: a step in the course of a command is RESET, completes the command, or brings it no further from its end, and
nearer to it if it is a turn of CIPH. -/
theorem Ciph.Running.step_cases {s t : State} {c₀ : Ciph} (h : step s = .next t) (hp : t.params = s.params)
    (hc : Ciph.Running s.params c₀ s.ciph) : (s.takesReset ∨ Ciph.Completed c₀ t.ciph) ∨
      Ciph.Running t.params c₀ t.ciph ∧ t.ciph.turnsLeft ≤ s.ciph.turnsLeft ∧
        (s.mover = .ciph → t.ciph.turnsLeft < s.ciph.turnsLeft) := by
  by_cases hreset : s.takesReset
  · exact .inl (.inl hreset)
  rw [hp]
  obtain ⟨-, e⟩ | ⟨hm, e⟩ := step_ciph_of_busy h hc.busy hreset <;> rw [e]
  · exact (hc.advance s.draws).imp .inr fun ⟨hrun, hlt⟩ => ⟨hrun, hlt.le, fun _ => hlt⟩
  · exact .inr ⟨hc, le_rfl, (absurd · hm)⟩

/-- R180, R188: so it is for DIG. -/
theorem Dig.Running.step_cases {s t : State} {d₀ : Dig} (h : step s = .next t) (hp : t.params = s.params)
    (hd : Dig.Running s.params d₀ s.dig) : (s.takesReset ∨ Dig.Completed d₀ t.dig) ∨
      Dig.Running t.params d₀ t.dig ∧ t.dig.turnsLeft t.params ≤ s.dig.turnsLeft s.params ∧
        (s.mover = .dig → t.dig.turnsLeft t.params < s.dig.turnsLeft s.params) := by
  by_cases hreset : s.takesReset
  · exact .inl (.inl hreset)
  rw [hp]
  obtain ⟨-, e⟩ | ⟨hm, e⟩ := step_dig_of_busy h hd.busy hreset <;> rw [e]
  · exact hd.afterTurn.imp .inr fun ⟨hrun, hlt⟩ => ⟨hrun, hlt.le, fun _ => hlt⟩
  · exact .inr ⟨hd, le_rfl, (absurd · hm)⟩

/-! ### Clear flags (R34, R36) -/

theorem Ciph.status_of_clear {c : Ciph} (hb : c.busy = false) (hd : c.done = false) : c.status = 0b00 := by
  simp [Ciph.status, hb, hd]

theorem Dig.status_of_clear {d : Dig} (hb : d.busy = false) (hd : d.done = false) (he : d.err = false)
    (hc : d.cause = 0) : d.status = 0b00000 := by
  simp [Dig.status, hb, hd, he, hc]

end Sys2Proof.Machine

namespace Sys2Proof.Proofs

open Sys2Proof.Machine

/-- Settles O52: fairness brings each busy unit its turns, and the turns left to it run out. -/
theorem issuedCommandsReachDone : Obligations.IssuedCommandsReachDone := by
  intro f n hf ⟨hciph, hdig⟩
  refine ⟨fun hb => ?_, fun hb => ?_⟩
  · obtain ⟨m, hm, hrun, hend⟩ := hf.leadsTo (a := .ciph) (P := fun s => Ciph.Running s.params (f n).ciph s.ciph)
      (μ := fun s => s.ciph.turnsLeft) (fun s hs => (Ciph.busy_iff hs.inv.1).mp hs.busy)
      (fun s t h hs => hs.step_cases h (noStepWritesATable s t h)) ⟨hciph, hb, rfl, rfl, rfl⟩
    exact ⟨m, hm, fun k hk hkm => (hrun k hk hkm).busy, hend⟩
  · obtain ⟨m, hm, hrun, hend⟩ := hf.leadsTo (a := .dig) (P := fun s => Dig.Running s.params (f n).dig s.dig)
      (μ := fun s => s.dig.turnsLeft s.params) (fun s hs => (Dig.busy_iff hs.inv.1).mp hs.busy)
      (fun s t h hs => hs.step_cases h (noStepWritesATable s t h)) ⟨hdig, hb, rfl, rfl⟩
    exact ⟨m, hm, fun k hk hkm => (hrun k hk hkm).busy, hend⟩

/-- Settles O31: RESET leaves both units idle with clear flags, which is a final state that meets the invariant. -/
theorem resetEventIdlesBothUnits : Obligations.ResetEventIdlesBothUnits := fun s =>
  ⟨resetBlock s, step_hostNext s .reset, rfl, Ciph.status_of_clear rfl rfl, rfl, Dig.status_of_clear rfl rfl rfl rfl,
    resetBlock_eq s, ⟨rfl, rfl, rfl, rfl⟩, resetBlock_inv s⟩

/-- Settles O34: the step is the host's move, which writes the ports alone. -/
theorem drivingPortsDisturbsNothing : Obligations.DrivingPortsDisturbsNothing := fun s _ _ _ _ =>
  ⟨step_hostNext s _, step_hostNext s _⟩

end Sys2Proof.Proofs
end
